-- ==== Sys2Proof/Word.lean ====
section
/-! DEFINITION. The bit-vector types of the machine (spec/00_scope.md rules R8 and R10). -/

namespace Sys2Proof

/-- The content of a general register, and an instruction word: XLEN = ILEN = 32 (rule R8). -/
abbrev Word := BitVec 32

/-- The content of one memory location (rule R8, BYTE = 8). -/
abbrev Byte := BitVec 8

/-- A memory address; the program counter, the address ceiling and the tick counter have this width too (rule R8,
ALEN = PCLEN = LIMLEN = TICKLEN = 64). -/
abbrev Addr := BitVec 64

/-- A register index: 5 bits, so never out of range (rules R8 and R23). -/
abbrev RegIdx := BitVec 5

/-- The opcode field of an instruction word (rule R8, OPLEN = 7). -/
abbrev Opcode := BitVec 7

/-- The immediate field of an ADDI word (rule R8, IMMLEN = 12). -/
abbrev Imm12 := BitVec 12

end Sys2Proof
end

