-- ==== Sys2Proof/Syntax.lean ====
section
/-! DEFINITION. The instructions: one constructor per row of spec/opcode_table.json (rules R84 and R85). -/

namespace Sys2Proof

/-- An instruction. The bits that the hardware does not examine (spec/30_encoding.md rule R83) are no part of it
(log entry 11). Each `unimpNN` is the row of the opcode 0xNN, which spec/43_null_unimplemented.md rule R161 covers. -/
inductive Instr where
  /-- NULL, opcode 0x00 (rule R160). -/
  | null
  /-- ADDI, opcode 0x13 (rule R140). -/
  | addi (rd rs1 : RegIdx) (imm : Imm12)
  /-- ADD, opcode 0x33 (rule R141). -/
  | add (rd rs1 rs2 : RegIdx)
  | unimp01 | unimp02 | unimp03 | unimp04 | unimp05 | unimp06 | unimp07 | unimp08
  | unimp09 | unimp0A | unimp0B | unimp0C | unimp0D | unimp0E | unimp0F | unimp10
  | unimp11 | unimp12 | unimp14 | unimp15 | unimp16 | unimp17 | unimp18 | unimp19
  | unimp1A | unimp1B | unimp1C | unimp1D | unimp1E | unimp1F | unimp20 | unimp21
  | unimp22 | unimp23 | unimp24 | unimp25 | unimp26 | unimp27 | unimp28 | unimp29
  | unimp2A | unimp2B | unimp2C | unimp2D | unimp2E | unimp2F | unimp30 | unimp31
  | unimp32 | unimp34 | unimp35 | unimp36 | unimp37 | unimp38 | unimp39 | unimp3A
  | unimp3B | unimp3C | unimp3D | unimp3E | unimp3F | unimp40 | unimp41 | unimp42
  | unimp43 | unimp44 | unimp45 | unimp46 | unimp47 | unimp48 | unimp49 | unimp4A
  | unimp4B | unimp4C | unimp4D | unimp4E | unimp4F | unimp50 | unimp51 | unimp52
  | unimp53 | unimp54 | unimp55 | unimp56 | unimp57 | unimp58 | unimp59 | unimp5A
  | unimp5B | unimp5C | unimp5D | unimp5E | unimp5F | unimp60 | unimp61 | unimp62
  | unimp63 | unimp64 | unimp65 | unimp66 | unimp67 | unimp68 | unimp69 | unimp6A
  | unimp6B | unimp6C | unimp6D | unimp6E | unimp6F | unimp70 | unimp71 | unimp72
  | unimp73 | unimp74 | unimp75 | unimp76 | unimp77 | unimp78 | unimp79 | unimp7A
  | unimp7B | unimp7C | unimp7D | unimp7E | unimp7F
  deriving DecidableEq, Repr

end Sys2Proof
end

