-- ==== Sys2Proof/WellFormed.lean ====
section
/-! DEFINITION. Well-formedness: of an instruction (which its field widths already guarantee, spec/10_state.md rule
R23), and of an instruction as an assembler programmer writes it (spec/30_encoding.md rules R88 and R89), where a number
can be out of range. -/

namespace Sys2Proof

/-- The register indices an instruction names. -/
def Instr.registers : Instr → List RegIdx
  | .null => []
  | .addi rd rs1 _ => [rd, rs1]
  | .add rd rs1 rs2 => [rd, rs1, rs2]
  | .unimp01 | .unimp02 | .unimp03 | .unimp04 | .unimp05 | .unimp06 | .unimp07 | .unimp08
  | .unimp09 | .unimp0A | .unimp0B | .unimp0C | .unimp0D | .unimp0E | .unimp0F | .unimp10
  | .unimp11 | .unimp12 | .unimp14 | .unimp15 | .unimp16 | .unimp17 | .unimp18 | .unimp19
  | .unimp1A | .unimp1B | .unimp1C | .unimp1D | .unimp1E | .unimp1F | .unimp20 | .unimp21
  | .unimp22 | .unimp23 | .unimp24 | .unimp25 | .unimp26 | .unimp27 | .unimp28 | .unimp29
  | .unimp2A | .unimp2B | .unimp2C | .unimp2D | .unimp2E | .unimp2F | .unimp30 | .unimp31
  | .unimp32 | .unimp34 | .unimp35 | .unimp36 | .unimp37 | .unimp38 | .unimp39 | .unimp3A
  | .unimp3B | .unimp3C | .unimp3D | .unimp3E | .unimp3F | .unimp40 | .unimp41 | .unimp42
  | .unimp43 | .unimp44 | .unimp45 | .unimp46 | .unimp47 | .unimp48 | .unimp49 | .unimp4A
  | .unimp4B | .unimp4C | .unimp4D | .unimp4E | .unimp4F | .unimp50 | .unimp51 | .unimp52
  | .unimp53 | .unimp54 | .unimp55 | .unimp56 | .unimp57 | .unimp58 | .unimp59 | .unimp5A
  | .unimp5B | .unimp5C | .unimp5D | .unimp5E | .unimp5F | .unimp60 | .unimp61 | .unimp62
  | .unimp63 | .unimp64 | .unimp65 | .unimp66 | .unimp67 | .unimp68 | .unimp69 | .unimp6A
  | .unimp6B | .unimp6C | .unimp6D | .unimp6E | .unimp6F | .unimp70 | .unimp71 | .unimp72
  | .unimp73 | .unimp74 | .unimp75 | .unimp76 | .unimp77 | .unimp78 | .unimp79 | .unimp7A
  | .unimp7B | .unimp7C | .unimp7D | .unimp7E | .unimp7F => []

/-- The immediates an instruction carries. -/
def Instr.immediates : Instr → List Imm12
  | .null => []
  | .addi _ _ imm => [imm]
  | .add _ _ _ => []
  | .unimp01 | .unimp02 | .unimp03 | .unimp04 | .unimp05 | .unimp06 | .unimp07 | .unimp08
  | .unimp09 | .unimp0A | .unimp0B | .unimp0C | .unimp0D | .unimp0E | .unimp0F | .unimp10
  | .unimp11 | .unimp12 | .unimp14 | .unimp15 | .unimp16 | .unimp17 | .unimp18 | .unimp19
  | .unimp1A | .unimp1B | .unimp1C | .unimp1D | .unimp1E | .unimp1F | .unimp20 | .unimp21
  | .unimp22 | .unimp23 | .unimp24 | .unimp25 | .unimp26 | .unimp27 | .unimp28 | .unimp29
  | .unimp2A | .unimp2B | .unimp2C | .unimp2D | .unimp2E | .unimp2F | .unimp30 | .unimp31
  | .unimp32 | .unimp34 | .unimp35 | .unimp36 | .unimp37 | .unimp38 | .unimp39 | .unimp3A
  | .unimp3B | .unimp3C | .unimp3D | .unimp3E | .unimp3F | .unimp40 | .unimp41 | .unimp42
  | .unimp43 | .unimp44 | .unimp45 | .unimp46 | .unimp47 | .unimp48 | .unimp49 | .unimp4A
  | .unimp4B | .unimp4C | .unimp4D | .unimp4E | .unimp4F | .unimp50 | .unimp51 | .unimp52
  | .unimp53 | .unimp54 | .unimp55 | .unimp56 | .unimp57 | .unimp58 | .unimp59 | .unimp5A
  | .unimp5B | .unimp5C | .unimp5D | .unimp5E | .unimp5F | .unimp60 | .unimp61 | .unimp62
  | .unimp63 | .unimp64 | .unimp65 | .unimp66 | .unimp67 | .unimp68 | .unimp69 | .unimp6A
  | .unimp6B | .unimp6C | .unimp6D | .unimp6E | .unimp6F | .unimp70 | .unimp71 | .unimp72
  | .unimp73 | .unimp74 | .unimp75 | .unimp76 | .unimp77 | .unimp78 | .unimp79 | .unimp7A
  | .unimp7B | .unimp7C | .unimp7D | .unimp7E | .unimp7F => []

/-- Rules R23 and R82: indices lie in 0 .. 31 and the immediate in -2048 .. 2047. -/
def Instr.wellFormed (i : Instr) : Bool :=
  i.registers.all (fun r => decide (r.toNat < 32)) &&
    i.immediates.all (fun m => decide (-2048 ≤ m.toInt) && decide (m.toInt ≤ 2047))

/-- An instruction as written in assembler text: registers are written by number, the immediate as a signed decimal
number (rule R88); `nop`, `mv` and `li` are the pseudo-instructions of rule R89; `word` is the `.word` directive by which
rule R88 writes NULL and UNIMP words. -/
inductive Asm where
  | addi (d s : Nat) (i : Int)
  | add (d s t : Nat)
  | word (w : Nat)
  | nop
  | mv (d s : Nat)
  | li (d : Nat) (i : Int)
  deriving DecidableEq, Repr

/-- Registers are written `x0` to `x31` (rule R88). -/
def Asm.registerOk (n : Nat) : Bool := decide (n < 32)

/-- The immediate is "a signed decimal number in -2048..2047" (rule R88). -/
def Asm.immediateOk (i : Int) : Bool := decide (-2048 ≤ i) && decide (i ≤ 2047)

/-- A `.word` holds one 32-bit word (rules R80 and R88). -/
def Asm.wordOk (w : Nat) : Bool := decide (w < 2 ^ 32)

/-- Every number of the line is in the range that rules R88 and R89 give it. -/
def Asm.wellFormed : Asm → Bool
  | .addi d s i => registerOk d && registerOk s && immediateOk i
  | .add d s t => registerOk d && registerOk s && registerOk t
  | .word w => wordOk w
  | .nop => true
  | .mv d s => registerOk d && registerOk s
  | .li d i => registerOk d && immediateOk i

end Sys2Proof
end

