-- ==== Sys2Proof/Decode.lean ====
section
/-! DEFINITION. The decoder, total over all 2^32 words (spec/30_encoding.md rules R80 to R87), and after it the encoder
and the assembler (rules R83, R85, R88 and R89). -/

namespace Sys2Proof

/-! ### Fields of an instruction word (rules R81 and R82) -/

/-- `opcode = word[6:0]` (rule R81). -/
def opcodeOf (w : Word) : Opcode := w.extractLsb' 0 7

/-- `rd = word[11:7]` (rule R81). -/
def rdOf (w : Word) : RegIdx := w.extractLsb' 7 5

/-- `rs1 = word[19:15]` (rule R81). -/
def rs1Of (w : Word) : RegIdx := w.extractLsb' 15 5

/-- `rs2 = word[24:20]` (rule R81). -/
def rs2Of (w : Word) : RegIdx := w.extractLsb' 20 5

/-- `word[31:20]`, the immediate field before its extension (rule R82). -/
def immOf (w : Word) : Imm12 := w.extractLsb' 20 12

/-! ### The opcode map (rules R84 and R85) -/

/-- Rows of the opcode map in the UNIMP class, from opcode 0x01 (rule R85). -/
def unimpRows0 : List (Opcode × Instr) :=
  [(0x01#7, .unimp01), (0x02#7, .unimp02), (0x03#7, .unimp03), (0x04#7, .unimp04),
   (0x05#7, .unimp05), (0x06#7, .unimp06), (0x07#7, .unimp07), (0x08#7, .unimp08),
   (0x09#7, .unimp09), (0x0A#7, .unimp0A), (0x0B#7, .unimp0B), (0x0C#7, .unimp0C),
   (0x0D#7, .unimp0D), (0x0E#7, .unimp0E), (0x0F#7, .unimp0F), (0x10#7, .unimp10)]

/-- Rows of the opcode map in the UNIMP class, from opcode 0x11 (rule R85). -/
def unimpRows1 : List (Opcode × Instr) :=
  [(0x11#7, .unimp11), (0x12#7, .unimp12), (0x14#7, .unimp14), (0x15#7, .unimp15),
   (0x16#7, .unimp16), (0x17#7, .unimp17), (0x18#7, .unimp18), (0x19#7, .unimp19),
   (0x1A#7, .unimp1A), (0x1B#7, .unimp1B), (0x1C#7, .unimp1C), (0x1D#7, .unimp1D),
   (0x1E#7, .unimp1E), (0x1F#7, .unimp1F), (0x20#7, .unimp20), (0x21#7, .unimp21)]

/-- Rows of the opcode map in the UNIMP class, from opcode 0x22 (rule R85). -/
def unimpRows2 : List (Opcode × Instr) :=
  [(0x22#7, .unimp22), (0x23#7, .unimp23), (0x24#7, .unimp24), (0x25#7, .unimp25),
   (0x26#7, .unimp26), (0x27#7, .unimp27), (0x28#7, .unimp28), (0x29#7, .unimp29),
   (0x2A#7, .unimp2A), (0x2B#7, .unimp2B), (0x2C#7, .unimp2C), (0x2D#7, .unimp2D),
   (0x2E#7, .unimp2E), (0x2F#7, .unimp2F), (0x30#7, .unimp30), (0x31#7, .unimp31)]

/-- Rows of the opcode map in the UNIMP class, from opcode 0x32 (rule R85). -/
def unimpRows3 : List (Opcode × Instr) :=
  [(0x32#7, .unimp32), (0x34#7, .unimp34), (0x35#7, .unimp35), (0x36#7, .unimp36),
   (0x37#7, .unimp37), (0x38#7, .unimp38), (0x39#7, .unimp39), (0x3A#7, .unimp3A),
   (0x3B#7, .unimp3B), (0x3C#7, .unimp3C), (0x3D#7, .unimp3D), (0x3E#7, .unimp3E),
   (0x3F#7, .unimp3F), (0x40#7, .unimp40), (0x41#7, .unimp41), (0x42#7, .unimp42)]

/-- Rows of the opcode map in the UNIMP class, from opcode 0x43 (rule R85). -/
def unimpRows4 : List (Opcode × Instr) :=
  [(0x43#7, .unimp43), (0x44#7, .unimp44), (0x45#7, .unimp45), (0x46#7, .unimp46),
   (0x47#7, .unimp47), (0x48#7, .unimp48), (0x49#7, .unimp49), (0x4A#7, .unimp4A),
   (0x4B#7, .unimp4B), (0x4C#7, .unimp4C), (0x4D#7, .unimp4D), (0x4E#7, .unimp4E),
   (0x4F#7, .unimp4F), (0x50#7, .unimp50), (0x51#7, .unimp51), (0x52#7, .unimp52)]

/-- Rows of the opcode map in the UNIMP class, from opcode 0x53 (rule R85). -/
def unimpRows5 : List (Opcode × Instr) :=
  [(0x53#7, .unimp53), (0x54#7, .unimp54), (0x55#7, .unimp55), (0x56#7, .unimp56),
   (0x57#7, .unimp57), (0x58#7, .unimp58), (0x59#7, .unimp59), (0x5A#7, .unimp5A),
   (0x5B#7, .unimp5B), (0x5C#7, .unimp5C), (0x5D#7, .unimp5D), (0x5E#7, .unimp5E),
   (0x5F#7, .unimp5F), (0x60#7, .unimp60), (0x61#7, .unimp61), (0x62#7, .unimp62)]

/-- Rows of the opcode map in the UNIMP class, from opcode 0x63 (rule R85). -/
def unimpRows6 : List (Opcode × Instr) :=
  [(0x63#7, .unimp63), (0x64#7, .unimp64), (0x65#7, .unimp65), (0x66#7, .unimp66),
   (0x67#7, .unimp67), (0x68#7, .unimp68), (0x69#7, .unimp69), (0x6A#7, .unimp6A),
   (0x6B#7, .unimp6B), (0x6C#7, .unimp6C), (0x6D#7, .unimp6D), (0x6E#7, .unimp6E),
   (0x6F#7, .unimp6F), (0x70#7, .unimp70), (0x71#7, .unimp71), (0x72#7, .unimp72)]

/-- Rows of the opcode map in the UNIMP class, from opcode 0x73 (rule R85). -/
def unimpRows7 : List (Opcode × Instr) :=
  [(0x73#7, .unimp73), (0x74#7, .unimp74), (0x75#7, .unimp75), (0x76#7, .unimp76),
   (0x77#7, .unimp77), (0x78#7, .unimp78), (0x79#7, .unimp79), (0x7A#7, .unimp7A),
   (0x7B#7, .unimp7B), (0x7C#7, .unimp7C), (0x7D#7, .unimp7D), (0x7E#7, .unimp7E),
   (0x7F#7, .unimp7F)]

/-- The 125 rows of the UNIMP class: every opcode but 0x00, 0x13 and 0x33 (rules R84 and R85). -/
def unimpRows : List (Opcode × Instr) :=
  unimpRows0 ++ unimpRows1 ++ unimpRows2 ++ unimpRows3 ++
    unimpRows4 ++ unimpRows5 ++ unimpRows6 ++ unimpRows7

/-- The UNIMP instruction of an opcode. The three other opcodes never come here (`decodeWord`); for them it answers
NULL. -/
def unimpOf (op : Opcode) : Instr := (unimpRows.lookup op).getD .null

/-- Dispatch on the opcode and on nothing else (rule R84): total over all words. -/
def decodeWord (w : Word) : Instr :=
  if opcodeOf w = 0x00#7 then .null
  else if opcodeOf w = 0x13#7 then .addi (rdOf w) (rs1Of w) (immOf w)
  else if opcodeOf w = 0x33#7 then .add (rdOf w) (rs1Of w) (rs2Of w)
  else unimpOf (opcodeOf w)

/-! ### Bytes (spec/20_memory.md rule R56, spec/40_fetch.md rules R111 and R118) -/

/-- Little-endian assembly of a word, the first byte the least significant (rule R111). -/
def assembleWord (b0 b1 b2 b3 : Byte) : Word :=
  b0.setWidth 32 ||| b1.setWidth 32 <<< 8 ||| b2.setWidth 32 <<< 16 ||| b3.setWidth 32 <<< 24

/-- The four bytes of a word in the order of their addresses (rule R118). -/
def wordBytes (w : Word) : List Byte :=
  [w.extractLsb' 0 8, w.extractLsb' 8 8, w.extractLsb' 16 8, w.extractLsb' 24 8]

/-- Why a list of bytes is no instruction. -/
inductive DecodeError where
  /-- Fewer than the four bytes of one instruction were given (rule R80). Raised by `decode` only, never by a step of
  the machine, whose fetch always reads four bytes (rule R113): safe (log entry 13). -/
  | truncated (given : Nat)
  deriving DecidableEq, Repr

/-- The decoder on bytes: one instruction is four bytes (rule R80), the rest of the list is handed back. -/
def decode : List Byte → Except DecodeError (Instr × List Byte)
  | b0 :: b1 :: b2 :: b3 :: rest => .ok (decodeWord (assembleWord b0 b1 b2 b3), rest)
  | bytes => .error (.truncated bytes.length)

/-- The word of an instruction whose bits are `w` in a table row of `nbits` bits: the bits above are 0. -/
def tableWord (nbits w : Nat) : Word := BitVec.ofNat 32 (w % 2 ^ nbits)

/-- The instruction the decoder reads from the bits `w`, numbered as spec/opcode_table.json numbers them. No
instruction is longer than 32 bits (rule R80). -/
def decodeTableWord (nbits w : Nat) : Option Instr :=
  if nbits ≤ 32 then
    match decode (wordBytes (tableWord nbits w)) with
    | .ok (i, _) => some i
    | .error _ => none
  else none

/-! ### The encoder (rules R83, R85 and R88): bits not examined are 0 -/

/-- The opcode of an instruction's row (rules R84 and R85). -/
def Instr.opcode : Instr → Opcode
  | .null => 0x00#7
  | .addi _ _ _ => 0x13#7
  | .add _ _ _ => 0x33#7
  | .unimp01 => 0x01#7
  | .unimp02 => 0x02#7
  | .unimp03 => 0x03#7
  | .unimp04 => 0x04#7
  | .unimp05 => 0x05#7
  | .unimp06 => 0x06#7
  | .unimp07 => 0x07#7
  | .unimp08 => 0x08#7
  | .unimp09 => 0x09#7
  | .unimp0A => 0x0A#7
  | .unimp0B => 0x0B#7
  | .unimp0C => 0x0C#7
  | .unimp0D => 0x0D#7
  | .unimp0E => 0x0E#7
  | .unimp0F => 0x0F#7
  | .unimp10 => 0x10#7
  | .unimp11 => 0x11#7
  | .unimp12 => 0x12#7
  | .unimp14 => 0x14#7
  | .unimp15 => 0x15#7
  | .unimp16 => 0x16#7
  | .unimp17 => 0x17#7
  | .unimp18 => 0x18#7
  | .unimp19 => 0x19#7
  | .unimp1A => 0x1A#7
  | .unimp1B => 0x1B#7
  | .unimp1C => 0x1C#7
  | .unimp1D => 0x1D#7
  | .unimp1E => 0x1E#7
  | .unimp1F => 0x1F#7
  | .unimp20 => 0x20#7
  | .unimp21 => 0x21#7
  | .unimp22 => 0x22#7
  | .unimp23 => 0x23#7
  | .unimp24 => 0x24#7
  | .unimp25 => 0x25#7
  | .unimp26 => 0x26#7
  | .unimp27 => 0x27#7
  | .unimp28 => 0x28#7
  | .unimp29 => 0x29#7
  | .unimp2A => 0x2A#7
  | .unimp2B => 0x2B#7
  | .unimp2C => 0x2C#7
  | .unimp2D => 0x2D#7
  | .unimp2E => 0x2E#7
  | .unimp2F => 0x2F#7
  | .unimp30 => 0x30#7
  | .unimp31 => 0x31#7
  | .unimp32 => 0x32#7
  | .unimp34 => 0x34#7
  | .unimp35 => 0x35#7
  | .unimp36 => 0x36#7
  | .unimp37 => 0x37#7
  | .unimp38 => 0x38#7
  | .unimp39 => 0x39#7
  | .unimp3A => 0x3A#7
  | .unimp3B => 0x3B#7
  | .unimp3C => 0x3C#7
  | .unimp3D => 0x3D#7
  | .unimp3E => 0x3E#7
  | .unimp3F => 0x3F#7
  | .unimp40 => 0x40#7
  | .unimp41 => 0x41#7
  | .unimp42 => 0x42#7
  | .unimp43 => 0x43#7
  | .unimp44 => 0x44#7
  | .unimp45 => 0x45#7
  | .unimp46 => 0x46#7
  | .unimp47 => 0x47#7
  | .unimp48 => 0x48#7
  | .unimp49 => 0x49#7
  | .unimp4A => 0x4A#7
  | .unimp4B => 0x4B#7
  | .unimp4C => 0x4C#7
  | .unimp4D => 0x4D#7
  | .unimp4E => 0x4E#7
  | .unimp4F => 0x4F#7
  | .unimp50 => 0x50#7
  | .unimp51 => 0x51#7
  | .unimp52 => 0x52#7
  | .unimp53 => 0x53#7
  | .unimp54 => 0x54#7
  | .unimp55 => 0x55#7
  | .unimp56 => 0x56#7
  | .unimp57 => 0x57#7
  | .unimp58 => 0x58#7
  | .unimp59 => 0x59#7
  | .unimp5A => 0x5A#7
  | .unimp5B => 0x5B#7
  | .unimp5C => 0x5C#7
  | .unimp5D => 0x5D#7
  | .unimp5E => 0x5E#7
  | .unimp5F => 0x5F#7
  | .unimp60 => 0x60#7
  | .unimp61 => 0x61#7
  | .unimp62 => 0x62#7
  | .unimp63 => 0x63#7
  | .unimp64 => 0x64#7
  | .unimp65 => 0x65#7
  | .unimp66 => 0x66#7
  | .unimp67 => 0x67#7
  | .unimp68 => 0x68#7
  | .unimp69 => 0x69#7
  | .unimp6A => 0x6A#7
  | .unimp6B => 0x6B#7
  | .unimp6C => 0x6C#7
  | .unimp6D => 0x6D#7
  | .unimp6E => 0x6E#7
  | .unimp6F => 0x6F#7
  | .unimp70 => 0x70#7
  | .unimp71 => 0x71#7
  | .unimp72 => 0x72#7
  | .unimp73 => 0x73#7
  | .unimp74 => 0x74#7
  | .unimp75 => 0x75#7
  | .unimp76 => 0x76#7
  | .unimp77 => 0x77#7
  | .unimp78 => 0x78#7
  | .unimp79 => 0x79#7
  | .unimp7A => 0x7A#7
  | .unimp7B => 0x7B#7
  | .unimp7C => 0x7C#7
  | .unimp7D => 0x7D#7
  | .unimp7E => 0x7E#7
  | .unimp7F => 0x7F#7

/-- An I-type word: `imm12 << 20 | rs1 << 15 | rd << 7 | opcode`, all other bits 0 (rules R83 and R88). -/
def encodeI (op : Opcode) (rd rs1 : RegIdx) (imm : Imm12) : Word :=
  imm.setWidth 32 <<< 20 ||| rs1.setWidth 32 <<< 15 ||| rd.setWidth 32 <<< 7 ||| op.setWidth 32

/-- An R-type word: `rs2 << 20 | rs1 << 15 | rd << 7 | opcode`, all other bits 0 (rules R83 and R88). -/
def encodeR (op : Opcode) (rd rs1 rs2 : RegIdx) : Word :=
  rs2.setWidth 32 <<< 20 ||| rs1.setWidth 32 <<< 15 ||| rd.setWidth 32 <<< 7 ||| op.setWidth 32

/-- A word of the classes NULL and UNIMP, which use the opcode field only (rule R83). -/
def encodeOpcodeOnly (op : Opcode) : Word := op.setWidth 32

/-- The canonical word of an instruction (rules R83 and R88). -/
def encode : Instr → Word
  | .addi rd rs1 imm => encodeI 0x13#7 rd rs1 imm
  | .add rd rs1 rs2 => encodeR 0x33#7 rd rs1 rs2
  | .null => encodeOpcodeOnly Instr.null.opcode
  | .unimp01 => encodeOpcodeOnly Instr.unimp01.opcode
  | .unimp02 => encodeOpcodeOnly Instr.unimp02.opcode
  | .unimp03 => encodeOpcodeOnly Instr.unimp03.opcode
  | .unimp04 => encodeOpcodeOnly Instr.unimp04.opcode
  | .unimp05 => encodeOpcodeOnly Instr.unimp05.opcode
  | .unimp06 => encodeOpcodeOnly Instr.unimp06.opcode
  | .unimp07 => encodeOpcodeOnly Instr.unimp07.opcode
  | .unimp08 => encodeOpcodeOnly Instr.unimp08.opcode
  | .unimp09 => encodeOpcodeOnly Instr.unimp09.opcode
  | .unimp0A => encodeOpcodeOnly Instr.unimp0A.opcode
  | .unimp0B => encodeOpcodeOnly Instr.unimp0B.opcode
  | .unimp0C => encodeOpcodeOnly Instr.unimp0C.opcode
  | .unimp0D => encodeOpcodeOnly Instr.unimp0D.opcode
  | .unimp0E => encodeOpcodeOnly Instr.unimp0E.opcode
  | .unimp0F => encodeOpcodeOnly Instr.unimp0F.opcode
  | .unimp10 => encodeOpcodeOnly Instr.unimp10.opcode
  | .unimp11 => encodeOpcodeOnly Instr.unimp11.opcode
  | .unimp12 => encodeOpcodeOnly Instr.unimp12.opcode
  | .unimp14 => encodeOpcodeOnly Instr.unimp14.opcode
  | .unimp15 => encodeOpcodeOnly Instr.unimp15.opcode
  | .unimp16 => encodeOpcodeOnly Instr.unimp16.opcode
  | .unimp17 => encodeOpcodeOnly Instr.unimp17.opcode
  | .unimp18 => encodeOpcodeOnly Instr.unimp18.opcode
  | .unimp19 => encodeOpcodeOnly Instr.unimp19.opcode
  | .unimp1A => encodeOpcodeOnly Instr.unimp1A.opcode
  | .unimp1B => encodeOpcodeOnly Instr.unimp1B.opcode
  | .unimp1C => encodeOpcodeOnly Instr.unimp1C.opcode
  | .unimp1D => encodeOpcodeOnly Instr.unimp1D.opcode
  | .unimp1E => encodeOpcodeOnly Instr.unimp1E.opcode
  | .unimp1F => encodeOpcodeOnly Instr.unimp1F.opcode
  | .unimp20 => encodeOpcodeOnly Instr.unimp20.opcode
  | .unimp21 => encodeOpcodeOnly Instr.unimp21.opcode
  | .unimp22 => encodeOpcodeOnly Instr.unimp22.opcode
  | .unimp23 => encodeOpcodeOnly Instr.unimp23.opcode
  | .unimp24 => encodeOpcodeOnly Instr.unimp24.opcode
  | .unimp25 => encodeOpcodeOnly Instr.unimp25.opcode
  | .unimp26 => encodeOpcodeOnly Instr.unimp26.opcode
  | .unimp27 => encodeOpcodeOnly Instr.unimp27.opcode
  | .unimp28 => encodeOpcodeOnly Instr.unimp28.opcode
  | .unimp29 => encodeOpcodeOnly Instr.unimp29.opcode
  | .unimp2A => encodeOpcodeOnly Instr.unimp2A.opcode
  | .unimp2B => encodeOpcodeOnly Instr.unimp2B.opcode
  | .unimp2C => encodeOpcodeOnly Instr.unimp2C.opcode
  | .unimp2D => encodeOpcodeOnly Instr.unimp2D.opcode
  | .unimp2E => encodeOpcodeOnly Instr.unimp2E.opcode
  | .unimp2F => encodeOpcodeOnly Instr.unimp2F.opcode
  | .unimp30 => encodeOpcodeOnly Instr.unimp30.opcode
  | .unimp31 => encodeOpcodeOnly Instr.unimp31.opcode
  | .unimp32 => encodeOpcodeOnly Instr.unimp32.opcode
  | .unimp34 => encodeOpcodeOnly Instr.unimp34.opcode
  | .unimp35 => encodeOpcodeOnly Instr.unimp35.opcode
  | .unimp36 => encodeOpcodeOnly Instr.unimp36.opcode
  | .unimp37 => encodeOpcodeOnly Instr.unimp37.opcode
  | .unimp38 => encodeOpcodeOnly Instr.unimp38.opcode
  | .unimp39 => encodeOpcodeOnly Instr.unimp39.opcode
  | .unimp3A => encodeOpcodeOnly Instr.unimp3A.opcode
  | .unimp3B => encodeOpcodeOnly Instr.unimp3B.opcode
  | .unimp3C => encodeOpcodeOnly Instr.unimp3C.opcode
  | .unimp3D => encodeOpcodeOnly Instr.unimp3D.opcode
  | .unimp3E => encodeOpcodeOnly Instr.unimp3E.opcode
  | .unimp3F => encodeOpcodeOnly Instr.unimp3F.opcode
  | .unimp40 => encodeOpcodeOnly Instr.unimp40.opcode
  | .unimp41 => encodeOpcodeOnly Instr.unimp41.opcode
  | .unimp42 => encodeOpcodeOnly Instr.unimp42.opcode
  | .unimp43 => encodeOpcodeOnly Instr.unimp43.opcode
  | .unimp44 => encodeOpcodeOnly Instr.unimp44.opcode
  | .unimp45 => encodeOpcodeOnly Instr.unimp45.opcode
  | .unimp46 => encodeOpcodeOnly Instr.unimp46.opcode
  | .unimp47 => encodeOpcodeOnly Instr.unimp47.opcode
  | .unimp48 => encodeOpcodeOnly Instr.unimp48.opcode
  | .unimp49 => encodeOpcodeOnly Instr.unimp49.opcode
  | .unimp4A => encodeOpcodeOnly Instr.unimp4A.opcode
  | .unimp4B => encodeOpcodeOnly Instr.unimp4B.opcode
  | .unimp4C => encodeOpcodeOnly Instr.unimp4C.opcode
  | .unimp4D => encodeOpcodeOnly Instr.unimp4D.opcode
  | .unimp4E => encodeOpcodeOnly Instr.unimp4E.opcode
  | .unimp4F => encodeOpcodeOnly Instr.unimp4F.opcode
  | .unimp50 => encodeOpcodeOnly Instr.unimp50.opcode
  | .unimp51 => encodeOpcodeOnly Instr.unimp51.opcode
  | .unimp52 => encodeOpcodeOnly Instr.unimp52.opcode
  | .unimp53 => encodeOpcodeOnly Instr.unimp53.opcode
  | .unimp54 => encodeOpcodeOnly Instr.unimp54.opcode
  | .unimp55 => encodeOpcodeOnly Instr.unimp55.opcode
  | .unimp56 => encodeOpcodeOnly Instr.unimp56.opcode
  | .unimp57 => encodeOpcodeOnly Instr.unimp57.opcode
  | .unimp58 => encodeOpcodeOnly Instr.unimp58.opcode
  | .unimp59 => encodeOpcodeOnly Instr.unimp59.opcode
  | .unimp5A => encodeOpcodeOnly Instr.unimp5A.opcode
  | .unimp5B => encodeOpcodeOnly Instr.unimp5B.opcode
  | .unimp5C => encodeOpcodeOnly Instr.unimp5C.opcode
  | .unimp5D => encodeOpcodeOnly Instr.unimp5D.opcode
  | .unimp5E => encodeOpcodeOnly Instr.unimp5E.opcode
  | .unimp5F => encodeOpcodeOnly Instr.unimp5F.opcode
  | .unimp60 => encodeOpcodeOnly Instr.unimp60.opcode
  | .unimp61 => encodeOpcodeOnly Instr.unimp61.opcode
  | .unimp62 => encodeOpcodeOnly Instr.unimp62.opcode
  | .unimp63 => encodeOpcodeOnly Instr.unimp63.opcode
  | .unimp64 => encodeOpcodeOnly Instr.unimp64.opcode
  | .unimp65 => encodeOpcodeOnly Instr.unimp65.opcode
  | .unimp66 => encodeOpcodeOnly Instr.unimp66.opcode
  | .unimp67 => encodeOpcodeOnly Instr.unimp67.opcode
  | .unimp68 => encodeOpcodeOnly Instr.unimp68.opcode
  | .unimp69 => encodeOpcodeOnly Instr.unimp69.opcode
  | .unimp6A => encodeOpcodeOnly Instr.unimp6A.opcode
  | .unimp6B => encodeOpcodeOnly Instr.unimp6B.opcode
  | .unimp6C => encodeOpcodeOnly Instr.unimp6C.opcode
  | .unimp6D => encodeOpcodeOnly Instr.unimp6D.opcode
  | .unimp6E => encodeOpcodeOnly Instr.unimp6E.opcode
  | .unimp6F => encodeOpcodeOnly Instr.unimp6F.opcode
  | .unimp70 => encodeOpcodeOnly Instr.unimp70.opcode
  | .unimp71 => encodeOpcodeOnly Instr.unimp71.opcode
  | .unimp72 => encodeOpcodeOnly Instr.unimp72.opcode
  | .unimp73 => encodeOpcodeOnly Instr.unimp73.opcode
  | .unimp74 => encodeOpcodeOnly Instr.unimp74.opcode
  | .unimp75 => encodeOpcodeOnly Instr.unimp75.opcode
  | .unimp76 => encodeOpcodeOnly Instr.unimp76.opcode
  | .unimp77 => encodeOpcodeOnly Instr.unimp77.opcode
  | .unimp78 => encodeOpcodeOnly Instr.unimp78.opcode
  | .unimp79 => encodeOpcodeOnly Instr.unimp79.opcode
  | .unimp7A => encodeOpcodeOnly Instr.unimp7A.opcode
  | .unimp7B => encodeOpcodeOnly Instr.unimp7B.opcode
  | .unimp7C => encodeOpcodeOnly Instr.unimp7C.opcode
  | .unimp7D => encodeOpcodeOnly Instr.unimp7D.opcode
  | .unimp7E => encodeOpcodeOnly Instr.unimp7E.opcode
  | .unimp7F => encodeOpcodeOnly Instr.unimp7F.opcode

/-- The bytes of an instruction in the order of their addresses. -/
def encodeBytes (i : Instr) : List Byte := wordBytes (encode i)

/-- The bits of a word that the hardware examines when it has the opcode `op` (rule R83 and the `not_examined` ranges
of spec/opcode_table.json). -/
def examinedBits (op : Opcode) : Word :=
  if op = 0x13#7 then 0xFFFF8FFF#32
  else if op = 0x33#7 then 0x01FF8FFF#32
  else 0x0000007F#32

/-! ### The assembler (rules R88 and R89) -/

/-- The word of an assembler line. -/
def assemble : Asm → Word
  | .addi d s i => encode (.addi (BitVec.ofNat 5 d) (BitVec.ofNat 5 s) (BitVec.ofInt 12 i))
  | .add d s t => encode (.add (BitVec.ofNat 5 d) (BitVec.ofNat 5 s) (BitVec.ofNat 5 t))
  | .word w => BitVec.ofNat 32 w
  | .nop => encode (.addi 0#5 0#5 0#12)
  | .mv d s => encode (.addi (BitVec.ofNat 5 d) (BitVec.ofNat 5 s) 0#12)
  | .li d i => encode (.addi (BitVec.ofNat 5 d) 0#5 (BitVec.ofInt 12 i))

end Sys2Proof
end

