-- ==== Sys2Proof/Config.lean ====
section
/-! DEFINITION. What this hardware fixes (spec/00_scope.md rule R8) and what its host leaves open. -/

namespace Sys2Proof

/-- RESET_PC: the program counter after reset (rules R8 and R37). -/
def Config.resetPc : Addr := 0#64

/-- RESET_X1: register 1 after reset, decimal 32 (rules R8 and R37). -/
def Config.resetX1 : Word := 32#32

/-- IBYTES: bytes per instruction, and the increment of the program counter (rule R8). -/
def Config.instrBytes : Addr := 4#64

/-- DESIGN CHOICE, unsafe (log entry 1): the `ramSize` the host passed to the reset that `State.reset` stands for.
The spec leaves the argument to the host (rule R242); statements about reset are made for every `ramSize`. -/
def Config.bootRamSize : Word := 0#32

/-- FREE VALUE (log entry 2): the byte the host holds at an address that the state's memory does not list. The spec
keeps it open (rule R52, decision D20, U1: "any value"): nothing constrains it. -/
opaque Config.hostByte : Addr → Byte

end Sys2Proof
end

