-- ==== Sys2Proof/Machine/Registers.lean ====
section
/-! DEFINITION. The register file as a value, and its content after reset (spec/10_state.md rules R21, R23 and R37). -/

namespace Sys2Proof.Machine

/-- 32 registers of 32 bits: fixed structure, never more and never fewer (rules R21 and R23). -/
abbrev RegFile := Vector Word 32

/-- The register file after `reset(ramSize)`: x1 = 32, x2 = `ramSize`, every other register 0 (rule R37). -/
def RegFile.reset (ramSize : Word) : RegFile :=
  ((Vector.replicate 32 0#32).set 1 Config.resetX1).set 2 ramSize

end Sys2Proof.Machine
end

