-- ==== Sys2Proof/Machine/State.lean ====
section
/-! DEFINITION. The state of the machine as plain data (spec/10_state.md), the reasons to stop, and the state right after
reset. -/

namespace Sys2Proof.Machine

/-- The state of the run state machine (rule R31). -/
inductive Mode where
  /-- No command is in progress: the machine waits for the host. -/
  | halted
  /-- A `run` command is in progress. -/
  | running
  deriving DecidableEq, Repr

/-- What the host may do while no command is in progress: the five commands of spec/70_reset_and_hazards.md rule R258,
and changing a byte of the memory it owns (spec/20_memory.md rules R66 and R69; log entry 8). -/
inductive HostMove where
  | reset (ramSize : Word)
  | fetch
  | execute (word : Word)
  | run (cycleLimit : Addr)
  | dump
  /-- No command of the core: the host stores a byte in its own memory between commands. -/
  | writeByte (address : Addr) (value : Byte)
  deriving DecidableEq, Repr

/-- What a command gives back to the host (rule R259): `fetch` a word, `dump` lines of (register number, value)
items, four a line (rule R262; the text format is outside the CORE block, rule R6). -/
inductive Reply where
  | word (w : Word)
  | dump (lines : List (List (Nat × Word)))
  deriving DecidableEq, Repr

/-- The bytes of the host's memory that are known, as cells with strictly rising addresses. A byte that no cell lists
is the free value `Config.hostByte` of its address (log entry 2). -/
abbrev Memory := List Host.Cell

/-- The whole state. `regs` to `mode` are the processor state of rule R20; `mem` and `diag` lie beside it (rules R36,
R52 and R162); the last three are the model's own (log entries 3, 5 and 6). -/
structure State where
  /-- x0 to x31 (rule R21); read and written through `State.readReg` and `State.writeReg` only. -/
  regs : RegFile
  /-- Address of the next instruction to fetch (rule R25). -/
  pc : Addr
  /-- The ceiling on the program counter for the current run (rule R29). -/
  cycleBudget : Addr
  /-- Instructions executed in the latest run (rule R30). -/
  tickCount : Addr
  /-- RUNNING or HALTED (rule R31); without meaning while `wasReset` is false (rule R38; `State.runInProgress`). -/
  mode : Mode
  /-- The host's memory (rules R50 and R52). -/
  mem : Memory
  /-- The diagnostic output stream, oldest first (rule R162). -/
  diag : List Opcode
  /-- What the host got back so far, oldest first (log entry 5). -/
  replies : List Reply
  /-- The host's moves still to come, in the order issued (log entry 3). -/
  hostQueue : List HostMove
  /-- Whether any `reset` has happened (rule R38; log entry 6). -/
  wasReset : Bool
  deriving DecidableEq, Repr

/-- Why a step could fault: there is no such reason. The hardware has no trap, no memory fault and no stuck state
(spec/60_exceptions.md rule R210, spec/20_memory.md rule R68, spec/44_run_loop.md rule R185). -/
inductive Fault where
  deriving DecidableEq, Repr

/-- Why a step is refused. -/
inductive Refusal where
  /-- An instruction without a meaning, by its mnemonic in spec/opcode_table.json. Raised by nothing: every arm of
  `exec` has its meaning. Safe. -/
  | notModelled (mnemonic : String)
  /-- A command other than `reset` before the first reset, which the core does not accept (rules R38 and R258, U8
  "refuse"). Raised by the host's moves (`hostStep`) when `wasReset` is false, whatever `mode` holds; never from a state that a reset has
  reached. Safe. -/
  | beforeFirstReset
  deriving DecidableEq, Repr

/-- The state right after `reset(Config.bootRamSize)` (rule R37), with nothing in memory, nothing emitted, nothing
replied and no move of the host pending. -/
def State.reset : State where
  regs := RegFile.reset Config.bootRamSize
  pc := Config.resetPc
  cycleBudget := 0#64
  tickCount := 0#64
  mode := .halted
  mem := []
  diag := []
  replies := []
  hostQueue := []
  wasReset := true

end Sys2Proof.Machine
end

