-- ==== Sys2Proof/Machine/Ops.lean ====
section
/-! DEFINITION. The named operations over memory, registers and the other fields of the state. There is no operation
that takes an exception, because the hardware has none (spec/60_exceptions.md rules R210 and R216): the one abnormal
event is the diagnostic (rule R212), `State.emitDiag`. -/

namespace Sys2Proof.Machine

/-! ### Memory (spec/20_memory.md) -/

/-- The byte a cell lists at an address key, if any. -/
def Memory.lookup : Memory → Nat → Option Byte
  | [], _ => none
  | (k, v) :: rest, a => if k = a then some v else Memory.lookup rest a

/-- `WriteByte(a, b)` of the host (rule R51): the cell in its place among strictly rising addresses. -/
def Memory.write : Memory → Nat → Byte → Memory
  | [], a, b => [(a, b)]
  | (k, v) :: rest, a, b =>
    if a < k then (a, b) :: (k, v) :: rest
    else if a = k then (a, b) :: rest
    else (k, v) :: Memory.write rest a b

/-- The canonical form: addresses strictly rising and inside the 64-bit space (rule R50). What an unlisted address
reads as is a free value, so no cell can be known to equal it (log entry 2). -/
abbrev Memory.wf (m : Memory) : Prop :=
  m.Pairwise (fun p q => p.1 < q.1) ∧ ∀ p ∈ m, p.1 < 2 ^ 64

/-- What an unlisted address reads as: the host's byte there, a free value (rule R52, decision D20; log entry 2). -/
def unlistedByte (a : Addr) : Byte := Config.hostByte a

/-- `ReadByte(a)` (rules R13, R51 and R52): total, without effect, without bounds check (rules R55 and R60). -/
def State.readByte (s : State) (a : Addr) : Byte :=
  match s.mem.lookup a.toNat with
  | some b => b
  | none => unlistedByte a

/-- The host stores one byte in its memory (rules R51 and R69). No rule of the core uses it (rule R54). -/
def State.writeByte (s : State) (a : Addr) (b : Byte) : State :=
  { s with mem := s.mem.write a.toNat b }

/-- The host places bytes at rising addresses, modulo 2^64 (spec/40_fetch.md rule R118). -/
def State.writeBytes (s : State) (a : Addr) : List Byte → State
  | [] => s
  | b :: rest => (s.writeByte a b).writeBytes (a + 1#64) rest

/-- The bytes at `n` addresses rising from `a`, modulo 2^64. -/
def State.readBytes (s : State) (a : Addr) : Nat → List Byte
  | 0 => []
  | n + 1 => s.readByte a :: s.readBytes (a + 1#64) n

/-! ### Registers (spec/10_state.md rule R22, spec/41_decode_dispatch.md rules R133 and R134) -/

/-- The register read port: the register's content, or 0 for x0 (rules R22 and R133). -/
def State.readReg (s : State) (i : RegIdx) : Word :=
  if i = 0#5 then 0#32 else s.regs[i.toNat]'i.isLt

/-- The register write port: a full 32-bit value; a write to x0 is discarded (rules R22 and R134). -/
def State.writeReg (s : State) (i : RegIdx) (v : Word) : State :=
  if i = 0#5 then s else { s with regs := s.regs.set i.toNat v i.isLt }

/-! ### Outputs -/

/-- `emit Diag(op)`: appends to the diagnostic stream and changes nothing else (rules R14 and R162). -/
def State.emitDiag (s : State) (op : Opcode) : State := { s with diag := s.diag ++ [op] }

/-- A command hands a result to the host (rule R259). -/
def State.reply (s : State) (r : Reply) : State := { s with replies := s.replies ++ [r] }

/-! ### Control state (spec/44_run_loop.md) -/

/-- `pc <- (pc + 4) mod 2^64` (rules R26, R28 and R182). -/
def State.advancePc (s : State) : State := { s with pc := s.pc + Config.instrBytes }

/-- `tickCount <- (tickCount + 1) mod 2^64` (rules R30 and R182). -/
def State.countTick (s : State) : State := { s with tickCount := s.tickCount + 1#64 }

/-- `mode <- HALTED` (rules R14 and R185). -/
def State.halt (s : State) : State := { s with mode := .halted }

/-- The three entry actions of `run(cycleLimit)`; the program counter and the registers stay (rule R181). -/
def State.enterRun (s : State) (cycleLimit : Addr) : State :=
  { s with cycleBudget := cycleLimit, tickCount := 0#64, mode := .running }

/-- `reset(ramSize)` (rules R37 and R241): every element of the processor state; memory and the diagnostic stream
stay (rules R240 and R243). -/
def State.applyReset (s : State) (ramSize : Word) : State :=
  { s with
    regs := RegFile.reset ramSize
    pc := Config.resetPc
    cycleBudget := 0#64
    tickCount := 0#64
    mode := .halted
    wasReset := true }

end Sys2Proof.Machine
end

