-- ==== Sys2Proof/Machine/Operands.lean ====
section
/-! DEFINITION. The operand forms: a register (`State.readReg`, in Ops.lean) and the one immediate (spec/30_encoding.md
rule R82); and the addition both computing instructions make (spec/42_integer_compute.md rules R142 to R144). -/

namespace Sys2Proof.Machine

/-- `sext_32(word[31:20])` (rules R11 and R82). -/
def immValue (imm : Imm12) : Word := imm.signExtend 32

/-- The sum modulo 2^32: no flag, no trap, no saturation (rules R143 and R144). -/
def addWords (a b : Word) : Word := a + b

end Sys2Proof.Machine
end

