-- ==== Sys2Proof/Machine/Integer.lean ====
section
/-! DEFINITION. The integer computational instructions (spec/42_integer_compute.md). Sources are read before the
destination is written (spec/41_decode_dispatch.md rule R133). -/

namespace Sys2Proof.Machine

/-- ADDI: `x[rd] <- x[rs1] + imm` modulo 2^32, discarded when `rd = 0` (rule R140). -/
def execAddi (rd rs1 : RegIdx) (imm : Imm12) (s : State) : Host.Outcome State Fault Refusal :=
  .next (s.writeReg rd (addWords (s.readReg rs1) (immValue imm)))

/-- ADD: `x[rd] <- x[rs1] + x[rs2]` modulo 2^32, discarded when `rd = 0` (rule R141). -/
def execAdd (rd rs1 rs2 : RegIdx) (s : State) : Host.Outcome State Fault Refusal :=
  .next (s.writeReg rd (addWords (s.readReg rs1) (s.readReg rs2)))

end Sys2Proof.Machine
end

