-- ==== Sys2Proof/Machine/NoOp.lean ====
section
/-! DEFINITION. The classes that compute nothing: NULL and the 125 UNIMP opcodes (spec/43_null_unimplemented.md). -/

namespace Sys2Proof.Machine

/-- NULL: nothing at all, and no diagnostic (rule R160). -/
def execNull (s : State) : Host.Outcome State Fault Refusal := .next s

/-- What every UNIMP opcode does: `emit Diag(opcode)` and nothing else; the run goes on (rules R161 and R163). -/
def execUnimplemented (op : Opcode) (s : State) : Host.Outcome State Fault Refusal := .next (s.emitDiag op)

/-- UNIMP, opcode 0x01 (rule R161). -/
def execUnimp01 (s : State) : Host.Outcome State Fault Refusal := execUnimplemented 0x01#7 s

/-- UNIMP, opcode 0x02 (rule R161). -/
def execUnimp02 (s : State) : Host.Outcome State Fault Refusal := execUnimplemented 0x02#7 s

/-- UNIMP, opcode 0x03 (rule R161). -/
def execUnimp03 (s : State) : Host.Outcome State Fault Refusal := execUnimplemented 0x03#7 s

/-- UNIMP, opcode 0x04 (rule R161). -/
def execUnimp04 (s : State) : Host.Outcome State Fault Refusal := execUnimplemented 0x04#7 s

/-- UNIMP, opcode 0x05 (rule R161). -/
def execUnimp05 (s : State) : Host.Outcome State Fault Refusal := execUnimplemented 0x05#7 s

/-- UNIMP, opcode 0x06 (rule R161). -/
def execUnimp06 (s : State) : Host.Outcome State Fault Refusal := execUnimplemented 0x06#7 s

/-- UNIMP, opcode 0x07 (rule R161). -/
def execUnimp07 (s : State) : Host.Outcome State Fault Refusal := execUnimplemented 0x07#7 s

/-- UNIMP, opcode 0x08 (rule R161). -/
def execUnimp08 (s : State) : Host.Outcome State Fault Refusal := execUnimplemented 0x08#7 s

/-- UNIMP, opcode 0x09 (rule R161). -/
def execUnimp09 (s : State) : Host.Outcome State Fault Refusal := execUnimplemented 0x09#7 s

/-- UNIMP, opcode 0x0A (rule R161). -/
def execUnimp0A (s : State) : Host.Outcome State Fault Refusal := execUnimplemented 0x0A#7 s

/-- UNIMP, opcode 0x0B (rule R161). -/
def execUnimp0B (s : State) : Host.Outcome State Fault Refusal := execUnimplemented 0x0B#7 s

/-- UNIMP, opcode 0x0C (rule R161). -/
def execUnimp0C (s : State) : Host.Outcome State Fault Refusal := execUnimplemented 0x0C#7 s

/-- UNIMP, opcode 0x0D (rule R161). -/
def execUnimp0D (s : State) : Host.Outcome State Fault Refusal := execUnimplemented 0x0D#7 s

/-- UNIMP, opcode 0x0E (rule R161). -/
def execUnimp0E (s : State) : Host.Outcome State Fault Refusal := execUnimplemented 0x0E#7 s

/-- UNIMP, opcode 0x0F (rule R161). -/
def execUnimp0F (s : State) : Host.Outcome State Fault Refusal := execUnimplemented 0x0F#7 s

/-- UNIMP, opcode 0x10 (rule R161). -/
def execUnimp10 (s : State) : Host.Outcome State Fault Refusal := execUnimplemented 0x10#7 s

/-- UNIMP, opcode 0x11 (rule R161). -/
def execUnimp11 (s : State) : Host.Outcome State Fault Refusal := execUnimplemented 0x11#7 s

/-- UNIMP, opcode 0x12 (rule R161). -/
def execUnimp12 (s : State) : Host.Outcome State Fault Refusal := execUnimplemented 0x12#7 s

/-- UNIMP, opcode 0x14 (rule R161). -/
def execUnimp14 (s : State) : Host.Outcome State Fault Refusal := execUnimplemented 0x14#7 s

/-- UNIMP, opcode 0x15 (rule R161). -/
def execUnimp15 (s : State) : Host.Outcome State Fault Refusal := execUnimplemented 0x15#7 s

/-- UNIMP, opcode 0x16 (rule R161). -/
def execUnimp16 (s : State) : Host.Outcome State Fault Refusal := execUnimplemented 0x16#7 s

/-- UNIMP, opcode 0x17 (rule R161). -/
def execUnimp17 (s : State) : Host.Outcome State Fault Refusal := execUnimplemented 0x17#7 s

/-- UNIMP, opcode 0x18 (rule R161). -/
def execUnimp18 (s : State) : Host.Outcome State Fault Refusal := execUnimplemented 0x18#7 s

/-- UNIMP, opcode 0x19 (rule R161). -/
def execUnimp19 (s : State) : Host.Outcome State Fault Refusal := execUnimplemented 0x19#7 s

/-- UNIMP, opcode 0x1A (rule R161). -/
def execUnimp1A (s : State) : Host.Outcome State Fault Refusal := execUnimplemented 0x1A#7 s

/-- UNIMP, opcode 0x1B (rule R161). -/
def execUnimp1B (s : State) : Host.Outcome State Fault Refusal := execUnimplemented 0x1B#7 s

/-- UNIMP, opcode 0x1C (rule R161). -/
def execUnimp1C (s : State) : Host.Outcome State Fault Refusal := execUnimplemented 0x1C#7 s

/-- UNIMP, opcode 0x1D (rule R161). -/
def execUnimp1D (s : State) : Host.Outcome State Fault Refusal := execUnimplemented 0x1D#7 s

/-- UNIMP, opcode 0x1E (rule R161). -/
def execUnimp1E (s : State) : Host.Outcome State Fault Refusal := execUnimplemented 0x1E#7 s

/-- UNIMP, opcode 0x1F (rule R161). -/
def execUnimp1F (s : State) : Host.Outcome State Fault Refusal := execUnimplemented 0x1F#7 s

/-- UNIMP, opcode 0x20 (rule R161). -/
def execUnimp20 (s : State) : Host.Outcome State Fault Refusal := execUnimplemented 0x20#7 s

/-- UNIMP, opcode 0x21 (rule R161). -/
def execUnimp21 (s : State) : Host.Outcome State Fault Refusal := execUnimplemented 0x21#7 s

/-- UNIMP, opcode 0x22 (rule R161). -/
def execUnimp22 (s : State) : Host.Outcome State Fault Refusal := execUnimplemented 0x22#7 s

/-- UNIMP, opcode 0x23 (rule R161). -/
def execUnimp23 (s : State) : Host.Outcome State Fault Refusal := execUnimplemented 0x23#7 s

/-- UNIMP, opcode 0x24 (rule R161). -/
def execUnimp24 (s : State) : Host.Outcome State Fault Refusal := execUnimplemented 0x24#7 s

/-- UNIMP, opcode 0x25 (rule R161). -/
def execUnimp25 (s : State) : Host.Outcome State Fault Refusal := execUnimplemented 0x25#7 s

/-- UNIMP, opcode 0x26 (rule R161). -/
def execUnimp26 (s : State) : Host.Outcome State Fault Refusal := execUnimplemented 0x26#7 s

/-- UNIMP, opcode 0x27 (rule R161). -/
def execUnimp27 (s : State) : Host.Outcome State Fault Refusal := execUnimplemented 0x27#7 s

/-- UNIMP, opcode 0x28 (rule R161). -/
def execUnimp28 (s : State) : Host.Outcome State Fault Refusal := execUnimplemented 0x28#7 s

/-- UNIMP, opcode 0x29 (rule R161). -/
def execUnimp29 (s : State) : Host.Outcome State Fault Refusal := execUnimplemented 0x29#7 s

/-- UNIMP, opcode 0x2A (rule R161). -/
def execUnimp2A (s : State) : Host.Outcome State Fault Refusal := execUnimplemented 0x2A#7 s

/-- UNIMP, opcode 0x2B (rule R161). -/
def execUnimp2B (s : State) : Host.Outcome State Fault Refusal := execUnimplemented 0x2B#7 s

/-- UNIMP, opcode 0x2C (rule R161). -/
def execUnimp2C (s : State) : Host.Outcome State Fault Refusal := execUnimplemented 0x2C#7 s

/-- UNIMP, opcode 0x2D (rule R161). -/
def execUnimp2D (s : State) : Host.Outcome State Fault Refusal := execUnimplemented 0x2D#7 s

/-- UNIMP, opcode 0x2E (rule R161). -/
def execUnimp2E (s : State) : Host.Outcome State Fault Refusal := execUnimplemented 0x2E#7 s

/-- UNIMP, opcode 0x2F (rule R161). -/
def execUnimp2F (s : State) : Host.Outcome State Fault Refusal := execUnimplemented 0x2F#7 s

/-- UNIMP, opcode 0x30 (rule R161). -/
def execUnimp30 (s : State) : Host.Outcome State Fault Refusal := execUnimplemented 0x30#7 s

/-- UNIMP, opcode 0x31 (rule R161). -/
def execUnimp31 (s : State) : Host.Outcome State Fault Refusal := execUnimplemented 0x31#7 s

/-- UNIMP, opcode 0x32 (rule R161). -/
def execUnimp32 (s : State) : Host.Outcome State Fault Refusal := execUnimplemented 0x32#7 s

/-- UNIMP, opcode 0x34 (rule R161). -/
def execUnimp34 (s : State) : Host.Outcome State Fault Refusal := execUnimplemented 0x34#7 s

/-- UNIMP, opcode 0x35 (rule R161). -/
def execUnimp35 (s : State) : Host.Outcome State Fault Refusal := execUnimplemented 0x35#7 s

/-- UNIMP, opcode 0x36 (rule R161). -/
def execUnimp36 (s : State) : Host.Outcome State Fault Refusal := execUnimplemented 0x36#7 s

/-- UNIMP, opcode 0x37 (rule R161). -/
def execUnimp37 (s : State) : Host.Outcome State Fault Refusal := execUnimplemented 0x37#7 s

/-- UNIMP, opcode 0x38 (rule R161). -/
def execUnimp38 (s : State) : Host.Outcome State Fault Refusal := execUnimplemented 0x38#7 s

/-- UNIMP, opcode 0x39 (rule R161). -/
def execUnimp39 (s : State) : Host.Outcome State Fault Refusal := execUnimplemented 0x39#7 s

/-- UNIMP, opcode 0x3A (rule R161). -/
def execUnimp3A (s : State) : Host.Outcome State Fault Refusal := execUnimplemented 0x3A#7 s

/-- UNIMP, opcode 0x3B (rule R161). -/
def execUnimp3B (s : State) : Host.Outcome State Fault Refusal := execUnimplemented 0x3B#7 s

/-- UNIMP, opcode 0x3C (rule R161). -/
def execUnimp3C (s : State) : Host.Outcome State Fault Refusal := execUnimplemented 0x3C#7 s

/-- UNIMP, opcode 0x3D (rule R161). -/
def execUnimp3D (s : State) : Host.Outcome State Fault Refusal := execUnimplemented 0x3D#7 s

/-- UNIMP, opcode 0x3E (rule R161). -/
def execUnimp3E (s : State) : Host.Outcome State Fault Refusal := execUnimplemented 0x3E#7 s

/-- UNIMP, opcode 0x3F (rule R161). -/
def execUnimp3F (s : State) : Host.Outcome State Fault Refusal := execUnimplemented 0x3F#7 s

/-- UNIMP, opcode 0x40 (rule R161). -/
def execUnimp40 (s : State) : Host.Outcome State Fault Refusal := execUnimplemented 0x40#7 s

/-- UNIMP, opcode 0x41 (rule R161). -/
def execUnimp41 (s : State) : Host.Outcome State Fault Refusal := execUnimplemented 0x41#7 s

/-- UNIMP, opcode 0x42 (rule R161). -/
def execUnimp42 (s : State) : Host.Outcome State Fault Refusal := execUnimplemented 0x42#7 s

/-- UNIMP, opcode 0x43 (rule R161). -/
def execUnimp43 (s : State) : Host.Outcome State Fault Refusal := execUnimplemented 0x43#7 s

/-- UNIMP, opcode 0x44 (rule R161). -/
def execUnimp44 (s : State) : Host.Outcome State Fault Refusal := execUnimplemented 0x44#7 s

/-- UNIMP, opcode 0x45 (rule R161). -/
def execUnimp45 (s : State) : Host.Outcome State Fault Refusal := execUnimplemented 0x45#7 s

/-- UNIMP, opcode 0x46 (rule R161). -/
def execUnimp46 (s : State) : Host.Outcome State Fault Refusal := execUnimplemented 0x46#7 s

/-- UNIMP, opcode 0x47 (rule R161). -/
def execUnimp47 (s : State) : Host.Outcome State Fault Refusal := execUnimplemented 0x47#7 s

/-- UNIMP, opcode 0x48 (rule R161). -/
def execUnimp48 (s : State) : Host.Outcome State Fault Refusal := execUnimplemented 0x48#7 s

/-- UNIMP, opcode 0x49 (rule R161). -/
def execUnimp49 (s : State) : Host.Outcome State Fault Refusal := execUnimplemented 0x49#7 s

/-- UNIMP, opcode 0x4A (rule R161). -/
def execUnimp4A (s : State) : Host.Outcome State Fault Refusal := execUnimplemented 0x4A#7 s

/-- UNIMP, opcode 0x4B (rule R161). -/
def execUnimp4B (s : State) : Host.Outcome State Fault Refusal := execUnimplemented 0x4B#7 s

/-- UNIMP, opcode 0x4C (rule R161). -/
def execUnimp4C (s : State) : Host.Outcome State Fault Refusal := execUnimplemented 0x4C#7 s

/-- UNIMP, opcode 0x4D (rule R161). -/
def execUnimp4D (s : State) : Host.Outcome State Fault Refusal := execUnimplemented 0x4D#7 s

/-- UNIMP, opcode 0x4E (rule R161). -/
def execUnimp4E (s : State) : Host.Outcome State Fault Refusal := execUnimplemented 0x4E#7 s

/-- UNIMP, opcode 0x4F (rule R161). -/
def execUnimp4F (s : State) : Host.Outcome State Fault Refusal := execUnimplemented 0x4F#7 s

/-- UNIMP, opcode 0x50 (rule R161). -/
def execUnimp50 (s : State) : Host.Outcome State Fault Refusal := execUnimplemented 0x50#7 s

/-- UNIMP, opcode 0x51 (rule R161). -/
def execUnimp51 (s : State) : Host.Outcome State Fault Refusal := execUnimplemented 0x51#7 s

/-- UNIMP, opcode 0x52 (rule R161). -/
def execUnimp52 (s : State) : Host.Outcome State Fault Refusal := execUnimplemented 0x52#7 s

/-- UNIMP, opcode 0x53 (rule R161). -/
def execUnimp53 (s : State) : Host.Outcome State Fault Refusal := execUnimplemented 0x53#7 s

/-- UNIMP, opcode 0x54 (rule R161). -/
def execUnimp54 (s : State) : Host.Outcome State Fault Refusal := execUnimplemented 0x54#7 s

/-- UNIMP, opcode 0x55 (rule R161). -/
def execUnimp55 (s : State) : Host.Outcome State Fault Refusal := execUnimplemented 0x55#7 s

/-- UNIMP, opcode 0x56 (rule R161). -/
def execUnimp56 (s : State) : Host.Outcome State Fault Refusal := execUnimplemented 0x56#7 s

/-- UNIMP, opcode 0x57 (rule R161). -/
def execUnimp57 (s : State) : Host.Outcome State Fault Refusal := execUnimplemented 0x57#7 s

/-- UNIMP, opcode 0x58 (rule R161). -/
def execUnimp58 (s : State) : Host.Outcome State Fault Refusal := execUnimplemented 0x58#7 s

/-- UNIMP, opcode 0x59 (rule R161). -/
def execUnimp59 (s : State) : Host.Outcome State Fault Refusal := execUnimplemented 0x59#7 s

/-- UNIMP, opcode 0x5A (rule R161). -/
def execUnimp5A (s : State) : Host.Outcome State Fault Refusal := execUnimplemented 0x5A#7 s

/-- UNIMP, opcode 0x5B (rule R161). -/
def execUnimp5B (s : State) : Host.Outcome State Fault Refusal := execUnimplemented 0x5B#7 s

/-- UNIMP, opcode 0x5C (rule R161). -/
def execUnimp5C (s : State) : Host.Outcome State Fault Refusal := execUnimplemented 0x5C#7 s

/-- UNIMP, opcode 0x5D (rule R161). -/
def execUnimp5D (s : State) : Host.Outcome State Fault Refusal := execUnimplemented 0x5D#7 s

/-- UNIMP, opcode 0x5E (rule R161). -/
def execUnimp5E (s : State) : Host.Outcome State Fault Refusal := execUnimplemented 0x5E#7 s

/-- UNIMP, opcode 0x5F (rule R161). -/
def execUnimp5F (s : State) : Host.Outcome State Fault Refusal := execUnimplemented 0x5F#7 s

/-- UNIMP, opcode 0x60 (rule R161). -/
def execUnimp60 (s : State) : Host.Outcome State Fault Refusal := execUnimplemented 0x60#7 s

/-- UNIMP, opcode 0x61 (rule R161). -/
def execUnimp61 (s : State) : Host.Outcome State Fault Refusal := execUnimplemented 0x61#7 s

/-- UNIMP, opcode 0x62 (rule R161). -/
def execUnimp62 (s : State) : Host.Outcome State Fault Refusal := execUnimplemented 0x62#7 s

/-- UNIMP, opcode 0x63 (rule R161). -/
def execUnimp63 (s : State) : Host.Outcome State Fault Refusal := execUnimplemented 0x63#7 s

/-- UNIMP, opcode 0x64 (rule R161). -/
def execUnimp64 (s : State) : Host.Outcome State Fault Refusal := execUnimplemented 0x64#7 s

/-- UNIMP, opcode 0x65 (rule R161). -/
def execUnimp65 (s : State) : Host.Outcome State Fault Refusal := execUnimplemented 0x65#7 s

/-- UNIMP, opcode 0x66 (rule R161). -/
def execUnimp66 (s : State) : Host.Outcome State Fault Refusal := execUnimplemented 0x66#7 s

/-- UNIMP, opcode 0x67 (rule R161). -/
def execUnimp67 (s : State) : Host.Outcome State Fault Refusal := execUnimplemented 0x67#7 s

/-- UNIMP, opcode 0x68 (rule R161). -/
def execUnimp68 (s : State) : Host.Outcome State Fault Refusal := execUnimplemented 0x68#7 s

/-- UNIMP, opcode 0x69 (rule R161). -/
def execUnimp69 (s : State) : Host.Outcome State Fault Refusal := execUnimplemented 0x69#7 s

/-- UNIMP, opcode 0x6A (rule R161). -/
def execUnimp6A (s : State) : Host.Outcome State Fault Refusal := execUnimplemented 0x6A#7 s

/-- UNIMP, opcode 0x6B (rule R161). -/
def execUnimp6B (s : State) : Host.Outcome State Fault Refusal := execUnimplemented 0x6B#7 s

/-- UNIMP, opcode 0x6C (rule R161). -/
def execUnimp6C (s : State) : Host.Outcome State Fault Refusal := execUnimplemented 0x6C#7 s

/-- UNIMP, opcode 0x6D (rule R161). -/
def execUnimp6D (s : State) : Host.Outcome State Fault Refusal := execUnimplemented 0x6D#7 s

/-- UNIMP, opcode 0x6E (rule R161). -/
def execUnimp6E (s : State) : Host.Outcome State Fault Refusal := execUnimplemented 0x6E#7 s

/-- UNIMP, opcode 0x6F (rule R161). -/
def execUnimp6F (s : State) : Host.Outcome State Fault Refusal := execUnimplemented 0x6F#7 s

/-- UNIMP, opcode 0x70 (rule R161). -/
def execUnimp70 (s : State) : Host.Outcome State Fault Refusal := execUnimplemented 0x70#7 s

/-- UNIMP, opcode 0x71 (rule R161). -/
def execUnimp71 (s : State) : Host.Outcome State Fault Refusal := execUnimplemented 0x71#7 s

/-- UNIMP, opcode 0x72 (rule R161). -/
def execUnimp72 (s : State) : Host.Outcome State Fault Refusal := execUnimplemented 0x72#7 s

/-- UNIMP, opcode 0x73 (rule R161). -/
def execUnimp73 (s : State) : Host.Outcome State Fault Refusal := execUnimplemented 0x73#7 s

/-- UNIMP, opcode 0x74 (rule R161). -/
def execUnimp74 (s : State) : Host.Outcome State Fault Refusal := execUnimplemented 0x74#7 s

/-- UNIMP, opcode 0x75 (rule R161). -/
def execUnimp75 (s : State) : Host.Outcome State Fault Refusal := execUnimplemented 0x75#7 s

/-- UNIMP, opcode 0x76 (rule R161). -/
def execUnimp76 (s : State) : Host.Outcome State Fault Refusal := execUnimplemented 0x76#7 s

/-- UNIMP, opcode 0x77 (rule R161). -/
def execUnimp77 (s : State) : Host.Outcome State Fault Refusal := execUnimplemented 0x77#7 s

/-- UNIMP, opcode 0x78 (rule R161). -/
def execUnimp78 (s : State) : Host.Outcome State Fault Refusal := execUnimplemented 0x78#7 s

/-- UNIMP, opcode 0x79 (rule R161). -/
def execUnimp79 (s : State) : Host.Outcome State Fault Refusal := execUnimplemented 0x79#7 s

/-- UNIMP, opcode 0x7A (rule R161). -/
def execUnimp7A (s : State) : Host.Outcome State Fault Refusal := execUnimplemented 0x7A#7 s

/-- UNIMP, opcode 0x7B (rule R161). -/
def execUnimp7B (s : State) : Host.Outcome State Fault Refusal := execUnimplemented 0x7B#7 s

/-- UNIMP, opcode 0x7C (rule R161). -/
def execUnimp7C (s : State) : Host.Outcome State Fault Refusal := execUnimplemented 0x7C#7 s

/-- UNIMP, opcode 0x7D (rule R161). -/
def execUnimp7D (s : State) : Host.Outcome State Fault Refusal := execUnimplemented 0x7D#7 s

/-- UNIMP, opcode 0x7E (rule R161). -/
def execUnimp7E (s : State) : Host.Outcome State Fault Refusal := execUnimplemented 0x7E#7 s

/-- UNIMP, opcode 0x7F (rule R161). -/
def execUnimp7F (s : State) : Host.Outcome State Fault Refusal := execUnimplemented 0x7F#7 s

end Sys2Proof.Machine
end

