-- ==== Sys2Proof/Machine/Dispatch.lean ====
section
/-! DEFINITION. exec: one arm per instruction (spec/41_decode_dispatch.md rule R130). -/

namespace Sys2Proof.Machine

def exec (i : Instr) (s : State) : Host.Outcome State Fault Refusal :=
  match i with
  | .null => Sys2Proof.Machine.execNull s
  | .addi rd rs1 imm => Sys2Proof.Machine.execAddi rd rs1 imm s
  | .add rd rs1 rs2 => Sys2Proof.Machine.execAdd rd rs1 rs2 s
  | .unimp01 => Sys2Proof.Machine.execUnimp01 s
  | .unimp02 => Sys2Proof.Machine.execUnimp02 s
  | .unimp03 => Sys2Proof.Machine.execUnimp03 s
  | .unimp04 => Sys2Proof.Machine.execUnimp04 s
  | .unimp05 => Sys2Proof.Machine.execUnimp05 s
  | .unimp06 => Sys2Proof.Machine.execUnimp06 s
  | .unimp07 => Sys2Proof.Machine.execUnimp07 s
  | .unimp08 => Sys2Proof.Machine.execUnimp08 s
  | .unimp09 => Sys2Proof.Machine.execUnimp09 s
  | .unimp0A => Sys2Proof.Machine.execUnimp0A s
  | .unimp0B => Sys2Proof.Machine.execUnimp0B s
  | .unimp0C => Sys2Proof.Machine.execUnimp0C s
  | .unimp0D => Sys2Proof.Machine.execUnimp0D s
  | .unimp0E => Sys2Proof.Machine.execUnimp0E s
  | .unimp0F => Sys2Proof.Machine.execUnimp0F s
  | .unimp10 => Sys2Proof.Machine.execUnimp10 s
  | .unimp11 => Sys2Proof.Machine.execUnimp11 s
  | .unimp12 => Sys2Proof.Machine.execUnimp12 s
  | .unimp14 => Sys2Proof.Machine.execUnimp14 s
  | .unimp15 => Sys2Proof.Machine.execUnimp15 s
  | .unimp16 => Sys2Proof.Machine.execUnimp16 s
  | .unimp17 => Sys2Proof.Machine.execUnimp17 s
  | .unimp18 => Sys2Proof.Machine.execUnimp18 s
  | .unimp19 => Sys2Proof.Machine.execUnimp19 s
  | .unimp1A => Sys2Proof.Machine.execUnimp1A s
  | .unimp1B => Sys2Proof.Machine.execUnimp1B s
  | .unimp1C => Sys2Proof.Machine.execUnimp1C s
  | .unimp1D => Sys2Proof.Machine.execUnimp1D s
  | .unimp1E => Sys2Proof.Machine.execUnimp1E s
  | .unimp1F => Sys2Proof.Machine.execUnimp1F s
  | .unimp20 => Sys2Proof.Machine.execUnimp20 s
  | .unimp21 => Sys2Proof.Machine.execUnimp21 s
  | .unimp22 => Sys2Proof.Machine.execUnimp22 s
  | .unimp23 => Sys2Proof.Machine.execUnimp23 s
  | .unimp24 => Sys2Proof.Machine.execUnimp24 s
  | .unimp25 => Sys2Proof.Machine.execUnimp25 s
  | .unimp26 => Sys2Proof.Machine.execUnimp26 s
  | .unimp27 => Sys2Proof.Machine.execUnimp27 s
  | .unimp28 => Sys2Proof.Machine.execUnimp28 s
  | .unimp29 => Sys2Proof.Machine.execUnimp29 s
  | .unimp2A => Sys2Proof.Machine.execUnimp2A s
  | .unimp2B => Sys2Proof.Machine.execUnimp2B s
  | .unimp2C => Sys2Proof.Machine.execUnimp2C s
  | .unimp2D => Sys2Proof.Machine.execUnimp2D s
  | .unimp2E => Sys2Proof.Machine.execUnimp2E s
  | .unimp2F => Sys2Proof.Machine.execUnimp2F s
  | .unimp30 => Sys2Proof.Machine.execUnimp30 s
  | .unimp31 => Sys2Proof.Machine.execUnimp31 s
  | .unimp32 => Sys2Proof.Machine.execUnimp32 s
  | .unimp34 => Sys2Proof.Machine.execUnimp34 s
  | .unimp35 => Sys2Proof.Machine.execUnimp35 s
  | .unimp36 => Sys2Proof.Machine.execUnimp36 s
  | .unimp37 => Sys2Proof.Machine.execUnimp37 s
  | .unimp38 => Sys2Proof.Machine.execUnimp38 s
  | .unimp39 => Sys2Proof.Machine.execUnimp39 s
  | .unimp3A => Sys2Proof.Machine.execUnimp3A s
  | .unimp3B => Sys2Proof.Machine.execUnimp3B s
  | .unimp3C => Sys2Proof.Machine.execUnimp3C s
  | .unimp3D => Sys2Proof.Machine.execUnimp3D s
  | .unimp3E => Sys2Proof.Machine.execUnimp3E s
  | .unimp3F => Sys2Proof.Machine.execUnimp3F s
  | .unimp40 => Sys2Proof.Machine.execUnimp40 s
  | .unimp41 => Sys2Proof.Machine.execUnimp41 s
  | .unimp42 => Sys2Proof.Machine.execUnimp42 s
  | .unimp43 => Sys2Proof.Machine.execUnimp43 s
  | .unimp44 => Sys2Proof.Machine.execUnimp44 s
  | .unimp45 => Sys2Proof.Machine.execUnimp45 s
  | .unimp46 => Sys2Proof.Machine.execUnimp46 s
  | .unimp47 => Sys2Proof.Machine.execUnimp47 s
  | .unimp48 => Sys2Proof.Machine.execUnimp48 s
  | .unimp49 => Sys2Proof.Machine.execUnimp49 s
  | .unimp4A => Sys2Proof.Machine.execUnimp4A s
  | .unimp4B => Sys2Proof.Machine.execUnimp4B s
  | .unimp4C => Sys2Proof.Machine.execUnimp4C s
  | .unimp4D => Sys2Proof.Machine.execUnimp4D s
  | .unimp4E => Sys2Proof.Machine.execUnimp4E s
  | .unimp4F => Sys2Proof.Machine.execUnimp4F s
  | .unimp50 => Sys2Proof.Machine.execUnimp50 s
  | .unimp51 => Sys2Proof.Machine.execUnimp51 s
  | .unimp52 => Sys2Proof.Machine.execUnimp52 s
  | .unimp53 => Sys2Proof.Machine.execUnimp53 s
  | .unimp54 => Sys2Proof.Machine.execUnimp54 s
  | .unimp55 => Sys2Proof.Machine.execUnimp55 s
  | .unimp56 => Sys2Proof.Machine.execUnimp56 s
  | .unimp57 => Sys2Proof.Machine.execUnimp57 s
  | .unimp58 => Sys2Proof.Machine.execUnimp58 s
  | .unimp59 => Sys2Proof.Machine.execUnimp59 s
  | .unimp5A => Sys2Proof.Machine.execUnimp5A s
  | .unimp5B => Sys2Proof.Machine.execUnimp5B s
  | .unimp5C => Sys2Proof.Machine.execUnimp5C s
  | .unimp5D => Sys2Proof.Machine.execUnimp5D s
  | .unimp5E => Sys2Proof.Machine.execUnimp5E s
  | .unimp5F => Sys2Proof.Machine.execUnimp5F s
  | .unimp60 => Sys2Proof.Machine.execUnimp60 s
  | .unimp61 => Sys2Proof.Machine.execUnimp61 s
  | .unimp62 => Sys2Proof.Machine.execUnimp62 s
  | .unimp63 => Sys2Proof.Machine.execUnimp63 s
  | .unimp64 => Sys2Proof.Machine.execUnimp64 s
  | .unimp65 => Sys2Proof.Machine.execUnimp65 s
  | .unimp66 => Sys2Proof.Machine.execUnimp66 s
  | .unimp67 => Sys2Proof.Machine.execUnimp67 s
  | .unimp68 => Sys2Proof.Machine.execUnimp68 s
  | .unimp69 => Sys2Proof.Machine.execUnimp69 s
  | .unimp6A => Sys2Proof.Machine.execUnimp6A s
  | .unimp6B => Sys2Proof.Machine.execUnimp6B s
  | .unimp6C => Sys2Proof.Machine.execUnimp6C s
  | .unimp6D => Sys2Proof.Machine.execUnimp6D s
  | .unimp6E => Sys2Proof.Machine.execUnimp6E s
  | .unimp6F => Sys2Proof.Machine.execUnimp6F s
  | .unimp70 => Sys2Proof.Machine.execUnimp70 s
  | .unimp71 => Sys2Proof.Machine.execUnimp71 s
  | .unimp72 => Sys2Proof.Machine.execUnimp72 s
  | .unimp73 => Sys2Proof.Machine.execUnimp73 s
  | .unimp74 => Sys2Proof.Machine.execUnimp74 s
  | .unimp75 => Sys2Proof.Machine.execUnimp75 s
  | .unimp76 => Sys2Proof.Machine.execUnimp76 s
  | .unimp77 => Sys2Proof.Machine.execUnimp77 s
  | .unimp78 => Sys2Proof.Machine.execUnimp78 s
  | .unimp79 => Sys2Proof.Machine.execUnimp79 s
  | .unimp7A => Sys2Proof.Machine.execUnimp7A s
  | .unimp7B => Sys2Proof.Machine.execUnimp7B s
  | .unimp7C => Sys2Proof.Machine.execUnimp7C s
  | .unimp7D => Sys2Proof.Machine.execUnimp7D s
  | .unimp7E => Sys2Proof.Machine.execUnimp7E s
  | .unimp7F => Sys2Proof.Machine.execUnimp7F s

end Sys2Proof.Machine
end

