-- ==== Sys2Proof/Machine/Fetch.lean ====
section
/-! DEFINITION. The fetch unit (spec/40_fetch.md). -/

namespace Sys2Proof.Machine

/-- `fetch()`: the four bytes at `pc`, `pc + 1`, `pc + 2`, `pc + 3` modulo 2^64, little-endian; it changes nothing
(rules R111 to R114). -/
def State.fetchWord (s : State) : Word :=
  assembleWord (s.readByte s.pc) (s.readByte (s.pc + 1#64)) (s.readByte (s.pc + 2#64)) (s.readByte (s.pc + 3#64))

end Sys2Proof.Machine
end

