-- ==== Sys2Proof/Machine/Flags.lean ====
section
/-! DEFINITION. The hardware has no flags and no condition codes (spec/10_state.md rule R33). The only conditions it
computes are the two tests of the run loop (spec/44_run_loop.md section 3) and whether a run is in progress at all. -/

namespace Sys2Proof.Machine

/-- Whether a `run` command is in progress: RUNNING, after a first reset (rule R31). Before the first reset `mode` is
unspecified like every other element, and no `run` can have been accepted (spec/10_state.md rule R38, the spec's decision
D17), so whatever `mode` holds there no run is in progress (log entry 6). -/
def State.runInProgress (s : State) : Bool := s.wasReset && decide (s.mode = .running)

/-- The loop guard, tested before every iteration: `pc >= cycleBudget`, unsigned (rule R183). -/
def State.guardStops (s : State) : Bool := decide (s.cycleBudget ≤ s.pc)

/-- The early exit, tested after every iteration: `cycleBudget < zext_64(x[2])`, unsigned, with the live value of x2
(rule R184). -/
def State.earlyExit (s : State) : Bool := decide (s.cycleBudget < (s.readReg 2#5).setWidth 64)

end Sys2Proof.Machine
end

