-- ==== Sys2Proof/Machine/RunLoop.lean ====
section
/-! DEFINITION. The execute operation on a word (spec/41_decode_dispatch.md rule R130) and the run loop
(spec/44_run_loop.md). -/

namespace Sys2Proof.Machine

/-- `execute(word)`: decode and dispatch (rule R130). -/
def executeWord (w : Word) (s : State) : Host.Outcome State Fault Refusal := exec (decodeWord w) s

/-- The end of an iteration: count the tick, then the early-exit test (rules R182 and R184). -/
def State.finishIteration (s : State) : State :=
  if s.countTick.earlyExit then s.countTick.halt else s.countTick

/-- One iteration: fetch, advance the program counter, execute, count, early-exit test (rule R182). -/
def runIteration (s : State) : Host.Outcome State Fault Refusal :=
  match executeWord s.fetchWord s.advancePc with
  | .next t => .next t.finishIteration
  | .fault r => .fault r
  | .refused r => .refused r

/-- One step of a run in progress: the guard, and when it lets the run go on one iteration (rules R183, R185 and R191). -/
def runStep (s : State) : Host.Outcome State Fault Refusal :=
  if s.guardStops then .next s.halt else runIteration s

end Sys2Proof.Machine
end

