-- ==== Sys2Proof/Machine/HostPort.lean ====
section
/-! DEFINITION. The host's moves while no run is in progress (spec/70_reset_and_hazards.md rules R240 to R262) and
how an instruction word is placed where the machine fetches next. -/

namespace Sys2Proof.Machine

/-- One line of the dump: four consecutive registers from `index`, each with its value (rule R262). -/
def State.dumpLine (s : State) (index : Nat) : List (Nat × Word) :=
  [index, index + 1, index + 2, index + 3].map (fun j => (j, s.readReg (BitVec.ofNat 5 j)))

/-- The lines of `dump()`: `index = 0, 4, 8, ...` while `index < min(tickCount, 32)` (rule R262). -/
def State.dumpLines (s : State) : List (List (Nat × Word)) :=
  (([0, 4, 8, 12, 16, 20, 24, 28] : List Nat).filter
    (fun index => decide (index < min s.tickCount.toNat 32))).map s.dumpLine

/-- What a move of the host does (rule R259). The entry of `run` and its first guard test and iteration are one step
(spec/44_run_loop.md rule R191). -/
def performMove (m : HostMove) (s : State) : Host.Outcome State Fault Refusal :=
  match m with
  | .reset ramSize => .next (s.applyReset ramSize)
  | .fetch => .next (s.reply (.word s.fetchWord))
  | .execute word => executeWord word s
  | .run cycleLimit => runStep (s.enterRun cycleLimit)
  | .dump => .next (s.reply (.dump s.dumpLines))
  | .writeByte address value => .next (s.writeByte address value)

/-- Whether the move may come before the first reset: `reset` (rule R38), and loading memory, which is the host's own
(rule R244, steps 1 and 2 in either order). -/
def HostMove.beforeResetOk : HostMove → Bool
  | .reset _ => true
  | .fetch => false
  | .execute _ => false
  | .run _ => false
  | .dump => false
  | .writeByte _ _ => true

/-- One step with no run in progress: the host's next move, completely and in the order issued (rule R258); with none
the machine waits (rules R185 and R226; log entry 4). Before the first reset, whatever `mode` holds, the moves that
`beforeResetOk` names are performed and every other one is refused (rule R38; log entry 6). -/
def hostStep (s : State) : Host.Outcome State Fault Refusal :=
  match s.hostQueue with
  | [] => .next s
  | m :: rest =>
    if s.wasReset || m.beforeResetOk then performMove m { s with hostQueue := rest }
    else .refused .beforeFirstReset

/-- The bits of `w` above `nbits` are 0; the word's bytes go to the addresses the next fetch reads (rule R118). -/
def State.placeWord (s : State) (nbits w : Nat) : State :=
  s.writeBytes s.pc (wordBytes (tableWord nbits w))

/-- The next step is an iteration: with no run in progress because the machine is HALTED after a reset and the host's
next move is a `run` whose limit lets one instruction run (rule R225, "a `run` with `cycleLimit = pc + 1` executes exactly
one instruction"), in a run because the ceiling lies above the program counter (log entry 9). -/
def State.armIteration (s : State) : State :=
  if s.runInProgress then
    if s.guardStops then { s with cycleBudget := s.pc + 1#64 } else s
  else
    { s with mode := .halted, hostQueue := .run (s.pc + 1#64) :: s.hostQueue, wasReset := true }

end Sys2Proof.Machine
end

