-- ==== Sys2Proof/Machine/Step.lean ====
section
/-! DEFINITION. One step of the machine (spec/44_run_loop.md rules R185 and R191). -/

namespace Sys2Proof.Machine

/-- With a run in progress: one iteration of the run loop with its guard. With none: the host's next move. That is
HALTED, and also every state before the first reset whatever its `mode` holds, since `mode` is unspecified there and
`reset` is the only command accepted (spec/10_state.md rule R38, spec/70_reset_and_hazards.md rule R258; that such a
state performs a host's store to memory and waits when there is no move is a DESIGN CHOICE, log entry 6). -/
def step (s : State) : Host.Outcome State Fault Refusal :=
  if s.runInProgress then runStep s else hostStep s

/-- `s` with the instruction whose bits are `w` stored where the next iteration fetches, and the next step made an
iteration (log entry 9). -/
def State.withFetchWord (s : State) (nbits w : Nat) : State := (s.placeWord nbits w).armIteration

end Sys2Proof.Machine
end

