-- ==== Sys2Proof/Safety.lean ====
section
/-! DEFINITION. What counts as a good state and a safe step, in the terms the statements use. -/

/-- An opcode of the UNIMP class: any but 0x00, 0x13 and 0x33 (spec/30_encoding.md rule R84). -/
def Sys2Proof.Opcode.unimplemented (op : Sys2Proof.Opcode) : Prop := op ≠ 0x00#7 ∧ op ≠ 0x13#7 ∧ op ≠ 0x33#7

namespace Sys2Proof.Machine

/-- The invariant of the machine after its first reset: the program counter is a multiple of 4 (spec/10_state.md rule
R27), register 0's storage holds 0 (rule R22), memory is in canonical form (log entry 2), and a reset has happened
(rule R38). -/
structure State.Inv (s : State) : Prop where
  pcAligned : s.pc.toNat % 4 = 0
  zeroIsZero : s.regs[0] = 0#32
  memCanonical : s.mem.wf
  resetDone : s.wasReset = true

/-- The largest ceiling under which a run ends: above it no multiple of 4 reaches the ceiling (rule R190). -/
def lastEndingLimit : Addr := 0xFFFFFFFFFFFFFFFC#64

/-- A run is in progress and its guard lets one more iteration start (spec/44_run_loop.md rules R183 and R185). -/
def State.iterates (s : State) : Prop := s.runInProgress = true ∧ s.pc < s.cycleBudget

/-- A run in progress that never ends: the program counter is aligned and the ceiling lies above every multiple of 4
(rule R190). -/
structure State.RunsForever (s : State) : Prop where
  inProgress : s.runInProgress = true
  pcAligned : s.pc.toNat % 4 = 0
  ceiling : lastEndingLimit < s.cycleBudget

/-- The host has issued the command `m`, it is the next one, and the core accepts it: HALTED, after a first reset (rule
R258 of spec/70_reset_and_hazards.md). -/
def State.accepts (s : State) (m : HostMove) (rest : List HostMove) : Prop :=
  s.mode = .halted ∧ s.wasReset = true ∧ s.hostQueue = m :: rest

/-- What an instruction that writes registers only leaves unchanged: every other element of the state, and every byte
of memory (spec/41_decode_dispatch.md rule R131). -/
structure State.KeepsAllButRegisters (s t : State) : Prop where
  pc : t.pc = s.pc
  cycleBudget : t.cycleBudget = s.cycleBudget
  tickCount : t.tickCount = s.tickCount
  mode : t.mode = s.mode
  diag : t.diag = s.diag
  replies : t.replies = s.replies
  hostQueue : t.hostQueue = s.hostQueue
  wasReset : t.wasReset = s.wasReset
  memory : ∀ a, t.readByte a = s.readByte a

/-- The number of iterations the guard allows from `p` under the ceiling `limit`: G of rule R188. -/
def guardIterations (p limit : Addr) : Nat := (limit.toNat - p.toNat + 3) / 4

end Sys2Proof.Machine
end

