-- ==== Sys2Proof/Certificates/Slice0/Obligations.lean ====
section
/-! DEFINITION. The statements for the provers. -/

open Sys2Proof Sys2Proof.Machine

/-! ### Encoding (spec/30_encoding.md) -/

/-- Decode and encode agree: no operand of any instruction is lost in its canonical word. -/
def Obligations.DecodeOfEncodeIsIdentity : Prop :=
  ∀ i : Instr, i.wellFormed = true → decode (encodeBytes i) = .ok (i, [])

/-- The other direction: encoding what a word decodes to gives the word with the bits not examined set to 0. -/
def Obligations.EncodeOfDecodeKeepsExaminedBits : Prop :=
  ∀ w : Word, encode (decodeWord w) = w &&& examinedBits (opcodeOf w)

/-- Two words decode to the same instruction exactly when they agree in the bits the hardware examines. -/
def Obligations.ExaminedBitsDecideTheInstruction : Prop :=
  ∀ w v : Word, decodeWord w = decodeWord v ↔ w &&& examinedBits (opcodeOf w) = v &&& examinedBits (opcodeOf v)

/-- Rule R81: the four fields are the source's masks and shifts, for every word; indices are in 0 .. 31; `rs2` is the
low five bits of the immediate. -/
def Obligations.FieldsAreMasksAndShifts : Prop :=
  ∀ w : Word,
    (opcodeOf w).setWidth 32 = w &&& 0x7F#32 ∧
      (rdOf w).setWidth 32 = (w >>> 7) &&& 0x1F#32 ∧
      (rs1Of w).setWidth 32 = (w >>> 15) &&& 0x1F#32 ∧
      (rs2Of w).setWidth 32 = (w >>> 20) &&& 0x1F#32 ∧
      rs2Of w = (immOf w).setWidth 5 ∧
      (rdOf w).toNat < 32 ∧ (rs1Of w).toNat < 32 ∧ (rs2Of w).toNat < 32

/-- Rule R82: the immediate of the ADDI class is one arithmetic right shift by 20 of the word, in -2048 .. 2047, with
the values of the rule's table. -/
def Obligations.ImmediateIsSignExtended : Prop :=
  (∀ w : Word, opcodeOf w = 0x13#7 → ∃ rd rs1 imm, decodeWord w = .addi rd rs1 imm ∧ immValue imm = w.sshiftRight 20) ∧
    (∀ w : Word, immValue (immOf w) = w.sshiftRight 20 ∧
      -2048 ≤ (immValue (immOf w)).toInt ∧ (immValue (immOf w)).toInt ≤ 2047) ∧
    immValue 0x000#12 = 0x00000000#32 ∧ immValue 0x001#12 = 0x00000001#32 ∧ immValue 0x7FF#12 = 0x000007FF#32 ∧
    immValue 0x800#12 = 0xFFFFF800#32 ∧ immValue 0xFFB#12 = 0xFFFFFFFB#32 ∧ immValue 0xFFF#12 = 0xFFFFFFFF#32

/-- Words of spec/95_test_vectors.md (parts 1 and 2, "Decode") of every family, each with the instruction it stands
for. -/
def Obligations.SampleWordsDecode : Prop :=
  decodeWord 0x00100513#32 = .addi 10#5 0#5 1#12 ∧ decodeWord 0xFFB30293#32 = .addi 5#5 6#5 0xFFB#12 ∧
    decodeWord 0xFFFFFF93#32 = .addi 31#5 31#5 0xFFF#12 ∧ decodeWord 0x006283B3#32 = .add 7#5 5#5 6#5 ∧
    decodeWord 0x40628533#32 = .add 10#5 5#5 6#5 ∧ decodeWord 0xFFFFFF80#32 = .null ∧
    decodeWord 0xFFFFFFFF#32 = .unimp7F ∧ decodeWord 0x00000073#32 = .unimp73 ∧ decodeWord 0x04030201#32 = .unimp01

/-- The encodings of the assembler lines, as numbers, with the pseudo-instructions as their expansions (section 6 of
spec/30_encoding.md). -/
def Obligations.AssemblerLinesEncodeByFormula : Prop :=
  (∀ d s i, (Asm.addi d s i).wellFormed = true →
      ((assemble (.addi d s i)).toNat : Int) = (i % 4096) * 2 ^ 20 + s * 2 ^ 15 + d * 2 ^ 7 + 0x13) ∧
    (∀ d s t, (Asm.add d s t).wellFormed = true →
      (assemble (.add d s t)).toNat = t * 2 ^ 20 + s * 2 ^ 15 + d * 2 ^ 7 + 0x33) ∧
    (∀ w, (Asm.word w).wellFormed = true → (assemble (.word w)).toNat = w) ∧
    assemble .nop = 0x00000013#32 ∧
    (∀ d s, (Asm.mv d s).wellFormed = true → (assemble (.mv d s)).toNat = s * 2 ^ 15 + d * 2 ^ 7 + 0x13) ∧
    (∀ d i, (Asm.li d i).wellFormed = true →
      ((assemble (.li d i)).toNat : Int) = (i % 4096) * 2 ^ 20 + d * 2 ^ 7 + 0x13)

/-! ### Fetch and memory (spec/20_memory.md, spec/40_fetch.md) -/

/-- The fetched word is the four bytes from `pc`, little-endian, and the example of the bytes 13 05 10 00 (rule R56). The
last three clauses, where the opcode, `rd` and the immediate lie in the bytes, are the consequences that R56 marks as
derived from itself and rule R81. That the addresses `pc + 1` to `pc + 3` are taken modulo 2^64, for every `pc`, aligned or
not, is the spec's decision D7 (rule R111). -/
def Obligations.FetchIsLittleEndian : Prop :=
  ∀ s : State,
    s.fetchWord = ((s.readByte s.pc).setWidth 32 ||| (s.readByte (s.pc + 1#64)).setWidth 32 <<< 8 |||
        (s.readByte (s.pc + 2#64)).setWidth 32 <<< 16 ||| (s.readByte (s.pc + 3#64)).setWidth 32 <<< 24) ∧
      (s.readBytes s.pc 4 = [0x13#8, 0x05#8, 0x10#8, 0x00#8] → s.fetchWord = 0x00100513#32) ∧
      opcodeOf s.fetchWord = (s.readByte s.pc).setWidth 7 ∧
      rdOf s.fetchWord = (s.readByte (s.pc + 1#64)).extractLsb' 0 4 ++ (s.readByte s.pc).extractLsb' 7 1 ∧
      immOf s.fetchWord = s.readByte (s.pc + 3#64) ++ (s.readByte (s.pc + 2#64)).extractLsb' 4 4

/-- The host's command `fetch()`, issued twice: each time the word at `pc` is handed back, the same word, and nothing
else changes (section 3 of spec/40_fetch.md). -/
def Obligations.FetchCommandChangesNothing : Prop :=
  ∀ (s : State) (rest : List HostMove), s.accepts .fetch (.fetch :: rest) →
    Host.Core.run Sys2Proof.core 2 s =
      .next { s with hostQueue := rest, replies := s.replies ++ [.word s.fetchWord, .word s.fetchWord] }

/-- A word placed at `pc`, lowest byte first, is the word fetched, and no byte outside those four changes (section 4 of
spec/40_fetch.md; the addresses modulo 2^64, for every `pc`, are the spec's decision D7). -/
def Obligations.PlacedWordIsFetched : Prop :=
  ∀ (s : State) (nbits w : Nat),
    (s.placeWord nbits w).fetchWord = BitVec.ofNat 32 (w % 2 ^ nbits) ∧
      ∀ a : Addr, a ≠ s.pc → a ≠ s.pc + 1#64 → a ≠ s.pc + 2#64 → a ≠ s.pc + 3#64 →
        (s.placeWord nbits w).readByte a = s.readByte a

/-- Only the host changes memory, and only by its own byte stores between commands: no step of a run and no command
changes a byte (section 1 of spec/20_memory.md). -/
def Obligations.OnlyTheHostChangesMemory : Prop :=
  ∀ s t : State, step s = .next t →
    (∀ a, t.readByte a = s.readByte a) ∨
      ∃ a b rest, s.runInProgress = false ∧ s.hostQueue = .writeByte a b :: rest ∧
        ∀ a', t.readByte a' = if a' = a then b else s.readByte a'

/-! ### The instructions (spec/41_decode_dispatch.md, spec/42_integer_compute.md, spec/43_null_unimplemented.md) -/

/-- Rule R130: `execute(word)`, dispatched on the opcode into four arms of which exactly one runs. -/
def Obligations.ExecuteDispatchesOnOpcode : Prop :=
  ∀ (w : Word) (s : State),
    executeWord w s =
      if w.extractLsb' 0 7 = 0x00#7 then .next s
      else if w.extractLsb' 0 7 = 0x13#7 then
        .next (s.writeReg (w.extractLsb' 7 5) (s.readReg (w.extractLsb' 15 5) + (w.extractLsb' 20 12).signExtend 32))
      else if w.extractLsb' 0 7 = 0x33#7 then
        .next (s.writeReg (w.extractLsb' 7 5) (s.readReg (w.extractLsb' 15 5) + s.readReg (w.extractLsb' 20 5)))
      else .next (s.emitDiag (w.extractLsb' 0 7))

/-- Rule R140: ADDI completes on every operand, in every state: the class of words, the canonical word, the sum, the
discarded write, and nothing else changed; and the rule's worked example. -/
def Obligations.AddiCompletes : Prop :=
  (∀ w : Word, opcodeOf w = 0x13#7 → decodeWord w = .addi (rdOf w) (rs1Of w) (immOf w)) ∧
    (∀ (rd rs1 : RegIdx) (imm : Imm12), encode (.addi rd rs1 imm) =
      (imm.setWidth 32 <<< 20 ||| rs1.setWidth 32 <<< 15 ||| rd.setWidth 32 <<< 7 ||| 0x13#32)) ∧
    (∀ s : State, s.readReg 6#5 = 0x0000000A#32 →
      ∃ t, executeWord 0xFFB30293#32 s = .next t ∧ t.readReg 5#5 = 0x00000005#32) ∧
    ∀ (rd rs1 : RegIdx) (imm : Imm12) (s : State), ∃ t, exec (.addi rd rs1 imm) s = .next t ∧
      (∀ j, t.readReg j = if j = rd ∧ rd ≠ 0#5 then s.readReg rs1 + imm.signExtend 32 else s.readReg j) ∧
      s.KeepsAllButRegisters t

/-- Rule R141: ADD completes on every operand, in every state: the class of words, the canonical word, the sum, the
discarded write, and nothing else changed; and the rule's worked example. -/
def Obligations.AddCompletes : Prop :=
  (∀ w : Word, opcodeOf w = 0x33#7 → decodeWord w = .add (rdOf w) (rs1Of w) (rs2Of w)) ∧
    (∀ rd rs1 rs2 : RegIdx, encode (.add rd rs1 rs2) =
      (rs2.setWidth 32 <<< 20 ||| rs1.setWidth 32 <<< 15 ||| rd.setWidth 32 <<< 7 ||| 0x33#32)) ∧
    (∀ s : State, s.readReg 5#5 = 0x00000007#32 → s.readReg 6#5 = 0x00000023#32 →
      ∃ t, executeWord 0x006283B3#32 s = .next t ∧ t.readReg 7#5 = 0x0000002A#32) ∧
    ∀ (rd rs1 rs2 : RegIdx) (s : State), ∃ t, exec (.add rd rs1 rs2) s = .next t ∧
      (∀ j, t.readReg j = if j = rd ∧ rd ≠ 0#5 then s.readReg rs1 + s.readReg rs2 else s.readReg j) ∧
      s.KeepsAllButRegisters t

/-- Rule R160: every word with opcode 0x00 is NULL, which completes and changes nothing; in a run it costs one
iteration. -/
def Obligations.NullCompletes : Prop :=
  (∀ w : Word, opcodeOf w = 0x00#7 → decodeWord w = .null) ∧
    (∀ s : State, exec .null s = .next s) ∧
    ∀ s : State, s.iterates → opcodeOf s.fetchWord = 0x00#7 →
      ∃ t, step s = .next t ∧ t.pc = s.pc + 4#64 ∧ t.tickCount = s.tickCount + 1#64 ∧
        (∀ j, t.readReg j = s.readReg j) ∧ t.diag = s.diag ∧ (∀ a, t.readByte a = s.readByte a)

/-- Rule R161: each of the 125 UNIMP instructions (`unimp01` to `unimp7F`, every constructor but `null`, `addi`, `add`)
completes, appends its opcode to the diagnostic stream, and changes nothing else; every word of another opcode than
0x00, 0x13 and 0x33 is one of them; in a run it costs one iteration, at whose end the run is RUNNING unless the early
exit of rule R184 fires (the last conjunct, which rests on the spec's decision D5 and not on R161). -/
def Obligations.UnimplementedCompletes : Prop :=
  (∀ w : Word, Opcode.unimplemented (opcodeOf w) → (decodeWord w).opcode = opcodeOf w) ∧
    (∀ i : Instr, Opcode.unimplemented i.opcode → ∀ s : State,
      exec i s = .next { s with diag := s.diag ++ [i.opcode] }) ∧
    ∀ s : State, s.iterates → Opcode.unimplemented (opcodeOf s.fetchWord) →
      ∃ t, step s = .next t ∧ t.pc = s.pc + 4#64 ∧ t.tickCount = s.tickCount + 1#64 ∧
        (∀ j, t.readReg j = s.readReg j) ∧ t.diag = s.diag ++ [opcodeOf s.fetchWord] ∧
        (∀ a, t.readByte a = s.readByte a) ∧
        t.mode = if s.cycleBudget < (s.readReg 2#5).setWidth 64 then .halted else .running

/-- The frame of the computing instructions ADDI and ADD: every register but the destination, x0 always, and every
other element of the state keeps its value, and every byte of memory (both store nothing). -/
def Obligations.ComputingInstructionsFrame : Prop :=
  ∀ (i : Instr) (rd : RegIdx), (∃ rs1 imm, i = .addi rd rs1 imm) ∨ (∃ rs1 rs2, i = .add rd rs1 rs2) →
    ∀ s t : State, exec i s = .next t →
      (∀ j, j ≠ rd → t.readReg j = s.readReg j) ∧ t.readReg 0#5 = s.readReg 0#5 ∧ s.KeepsAllButRegisters t

/-- The frame of NULL and of the 125 UNIMP instructions: nothing changes but, for UNIMP, the diagnostic stream. -/
def Obligations.NoOpClassesFrame : Prop :=
  ∀ i : Instr, i.opcode ≠ 0x13#7 → i.opcode ≠ 0x33#7 → ∀ s t : State, exec i s = .next t →
    (∀ j, t.readReg j = s.readReg j) ∧ t.pc = s.pc ∧ t.cycleBudget = s.cycleBudget ∧ t.tickCount = s.tickCount ∧
      t.mode = s.mode ∧ t.replies = s.replies ∧ t.hostQueue = s.hostQueue ∧ t.wasReset = s.wasReset ∧
      (∀ a, t.readByte a = s.readByte a) ∧
      t.diag = if i = .null then s.diag else s.diag ++ [i.opcode]

/-- Rule R132: execute completes for every word, leaves the mode as it was, and leaves the core able to execute the next
word. -/
def Obligations.ExecuteNeverFails : Prop :=
  ∀ (w : Word) (s : State), ∃ t, executeWord w s = .next t ∧ t.mode = s.mode ∧
    ∀ w' : Word, ∃ u, executeWord w' t = .next u

/-- Rule R131: execute leaves the program counter, the control state and memory alone and does not depend on them: two
states with equal registers end with equal registers and emit the same diagnostics. Around it the loop advances the
program counter and counts, for every class. -/
def Obligations.ExecuteTouchesRegistersOnly : Prop :=
  (∀ (w : Word) (s s' t : State), (∀ j, s'.readReg j = s.readReg j) → executeWord w s = .next t →
      t.pc = s.pc ∧ t.cycleBudget = s.cycleBudget ∧ t.tickCount = s.tickCount ∧ t.mode = s.mode ∧
        (∀ a, t.readByte a = s.readByte a) ∧
        ∃ t', executeWord w s' = .next t' ∧ (∀ j, t'.readReg j = t.readReg j) ∧
          ∃ emitted, t.diag = s.diag ++ emitted ∧ t'.diag = s'.diag ++ emitted) ∧
    ∀ s : State, s.iterates → ∃ t, step s = .next t ∧ t.pc = s.pc + 4#64 ∧ t.tickCount = s.tickCount + 1#64

/-- Rule R22: x0 reads 0 in every state, and an instruction that targets it completes and changes nothing. -/
def Obligations.RegisterZeroIsConstant : Prop :=
  (∀ s : State, s.readReg 0#5 = 0#32) ∧
    (∀ (s : State) (rs1 : RegIdx) (imm : Imm12), exec (.addi 0#5 rs1 imm) s = .next s) ∧
    ∀ (s : State) (rs1 rs2 : RegIdx), exec (.add 0#5 rs1 rs2) s = .next s

/-- Rule R133: sources are read before the destination is written. -/
def Obligations.SourcesAreReadBeforeTheWrite : Prop :=
  ∀ (s : State) (r q : RegIdx) (imm : Imm12), r ≠ 0#5 →
    (∃ t, exec (.add r r r) s = .next t ∧ (t.readReg r).toNat = 2 * (s.readReg r).toNat % 2 ^ 32) ∧
      (∃ t, exec (.add r r q) s = .next t ∧ t.readReg r = s.readReg r + s.readReg q) ∧
      (∃ t, exec (.add r q r) s = .next t ∧ t.readReg r = s.readReg q + s.readReg r) ∧
      (∃ t, exec (.add r q q) s = .next t ∧ t.readReg r = s.readReg q + s.readReg q) ∧
      (∃ t, exec (.addi r r imm) s = .next t ∧ t.readReg r = s.readReg r + imm.signExtend 32) ∧
      ∃ t, exec (.add r 0#5 q) s = .next t ∧ t.readReg r = s.readReg q

/-- Rule R134: at most the register `rd` of a word is written; with `rd = 0` a computing word has no effect at all; and
the next instruction sees the write. -/
def Obligations.AtMostOneRegisterIsWritten : Prop :=
  (∀ (w : Word) (s t : State), executeWord w s = .next t → ∀ j, j ≠ rdOf w → t.readReg j = s.readReg j) ∧
    (∀ (w : Word) (s : State), (opcodeOf w = 0x13#7 ∨ opcodeOf w = 0x33#7) → rdOf w = 0#5 →
      executeWord w s = .next s) ∧
    ∀ (s : State) (rd rs1 rs2 q : RegIdx), rd ≠ 0#5 → q ≠ 0#5 →
      ∃ t u, exec (.add rd rs1 rs2) s = .next t ∧ exec (.addi q rd 0#12) t = .next u ∧
        u.readReg q = s.readReg rs1 + s.readReg rs2

/-- Sums wrap modulo 2^32, read as unsigned or as signed numbers (section 2 of spec/42_integer_compute.md; the wrap is
the spec's decision D11). -/
def Obligations.SumsWrapModulo32Bits : Prop :=
  ∀ (s : State) (rd rs1 rs2 : RegIdx) (imm : Imm12), rd ≠ 0#5 →
    (∃ t, exec (.add rd rs1 rs2) s = .next t ∧
        (t.readReg rd).toNat = ((s.readReg rs1).toNat + (s.readReg rs2).toNat) % 2 ^ 32 ∧
        (t.readReg rd).toInt = ((s.readReg rs1).toInt + (s.readReg rs2).toInt).bmod (2 ^ 32)) ∧
      ∃ t, exec (.addi rd rs1 imm) s = .next t ∧
        ((t.readReg rd).toNat : Int) = ((s.readReg rs1).toNat + imm.toInt) % 2 ^ 32 ∧
        (t.readReg rd).toInt = ((s.readReg rs1).toInt + imm.toInt).bmod (2 ^ 32)

/-! ### The run loop (spec/44_run_loop.md) -/

/-- A step of a run whose guard lets it go on runs the instruction that the four bytes at `pc` decode to: exec of it on
the state with the program counter advanced, and then the end of the iteration (tick, early-exit test). -/
def Obligations.StepRunsTheDecodedInstruction : Prop :=
  ∀ (s : State) (i : Instr), s.iterates → decode (s.readBytes s.pc 4) = .ok (i, []) → i.wellFormed = true →
    step s =
      match exec i s.advancePc with
      | .next t => .next t.finishIteration
      | .fault r => .fault r
      | .refused r => .refused r

/-- Rule R182: the body of one iteration. -/
def Obligations.IterationBody : Prop :=
  ∀ s : State, s.iterates → ∃ u t,
    executeWord s.fetchWord { s with pc := s.pc + 4#64 } = .next u ∧ step s = .next t ∧
      (∀ j, t.readReg j = u.readReg j) ∧ t.diag = u.diag ∧ t.pc = s.pc + 4#64 ∧ t.tickCount = s.tickCount + 1#64 ∧
      t.cycleBudget = s.cycleBudget ∧ (∀ a, t.readByte a = s.readByte a) ∧ t.hostQueue = s.hostQueue ∧
      t.replies = s.replies ∧
      t.mode = if s.cycleBudget < (t.readReg 2#5).setWidth 64 then .halted else .running

/-- The loop guard, tested before every iteration: it ends the run and changes nothing else (section 3 of
spec/44_run_loop.md; the pre-test is the spec's decision D3). -/
def Obligations.GuardEndsTheRun : Prop :=
  ∀ s : State, s.runInProgress = true → s.cycleBudget ≤ s.pc → step s = .next { s with mode := .halted }

/-- The entry of `run` (rule R181): it stores the ceiling, zeroes the tick counter and sets RUNNING, and nothing else.
First clause: what follows in the same step is the step of the RUNNING state (rule R191, the spec's decision D1). Second
clause: with a ceiling not above `pc` no instruction runs, the mode is HALTED, and the entry actions have still happened
(the guard tested before the first iteration, rule R183, the spec's decision D3). -/
def Obligations.RunEntryActions : Prop :=
  ∀ (s : State) (limit : Addr) (rest : List HostMove), s.accepts (.run limit) rest →
    step s = step { s with cycleBudget := limit, tickCount := 0#64, mode := .running, hostQueue := rest } ∧
      (limit ≤ s.pc →
        step s = .next { s with cycleBudget := limit, tickCount := 0#64, mode := .halted, hostQueue := rest })

/-- The early exit: a run whose limit is below x2 halts after a single instruction, which is counted, unless that
instruction has x2 as its `rd` (section 3 of spec/44_run_loop.md; the unsigned comparison is the spec's decision D5, the
guard before the first iteration D3, the entry and that iteration in one step D1). -/
def Obligations.SmallLimitHaltsAfterOneInstruction : Prop :=
  ∀ (s : State) (limit : Addr) (rest : List HostMove), s.accepts (.run limit) rest → s.pc < limit →
    limit < (s.readReg 2#5).setWidth 64 → rdOf s.fetchWord ≠ 2#5 →
      ∃ t, step s = .next t ∧ t.mode = .halted ∧ t.tickCount = 1#64 ∧ t.pc = s.pc + 4#64 ∧ t.cycleBudget = limit

/-- How many instructions a run executes (section 4 of spec/44_run_loop.md, "min(G, k)"): from every state of a run with
an aligned program counter and a ceiling of at most 0xFFFFFFFFFFFFFFFC there are `n` iterations, at most as many as the
guard allows; the run then has halted by the early exit, or the guard halts it in the next step; and no iteration before
the last met the early exit. The count rests on the spec's decisions D3 (the guard is tested before every iteration, the
first included), D5 (the early exit is an unsigned comparison) and D1 (one step is one iteration with its guard). -/
def Obligations.RunEndsAfterMinOfGuardAndEarlyExit : Prop :=
  ∀ s : State, s.runInProgress = true → s.pc.toNat % 4 = 0 → s.cycleBudget ≤ lastEndingLimit →
    ∃ n t, n ≤ guardIterations s.pc s.cycleBudget ∧ Host.Core.run Sys2Proof.core n s = .next t ∧
      t.pc = s.pc + 4#64 * BitVec.ofNat 64 n ∧ t.tickCount = s.tickCount + BitVec.ofNat 64 n ∧
      t.cycleBudget = s.cycleBudget ∧
      ((t.mode = .halted ∧ 1 ≤ n ∧ s.cycleBudget < (t.readReg 2#5).setWidth 64) ∨
        (t.mode = .running ∧ n = guardIterations s.pc s.cycleBudget ∧ step t = .next { t with mode := .halted })) ∧
      ∀ m, 1 ≤ m → m < n → ∃ u, Host.Core.run Sys2Proof.core m s = .next u ∧ u.mode = .running ∧
        ¬ s.cycleBudget < (u.readReg 2#5).setWidth 64

/-- A run that never ends (section 4 of spec/44_run_loop.md): under a ceiling above 0xFFFFFFFFFFFFFFFC every number of
steps leaves the run RUNNING, whatever memory holds; the program counter walks on modulo 2^64 (the spec's decisions D1,
D3, D5, D6 and D8). -/
def Obligations.RunNeverEndsAboveTheLastLimit : Prop :=
  ∀ s : State, s.RunsForever →
    ∀ n, ∃ t, Host.Core.run Sys2Proof.core n s = .next t ∧ t.mode = .running ∧
      t.pc = s.pc + 4#64 * BitVec.ofNat 64 n ∧ t.tickCount = s.tickCount + BitVec.ofNat 64 n

/-- `pc - 4 * tickCount` (modulo 2^64) is the same before and after every step of a run, so at its end it is the
program counter the run started from (section 4 of spec/44_run_loop.md; the first step of a run includes the entry
actions, the spec's decision D1). -/
def Obligations.StartOfRunIsRecoverable : Prop :=
  (∀ s t : State, s.runInProgress = true → step s = .next t →
      t.pc - 4#64 * t.tickCount = s.pc - 4#64 * s.tickCount) ∧
    ∀ (s t : State) (limit : Addr) (rest : List HostMove), s.accepts (.run limit) rest → step s = .next t →
      t.pc - 4#64 * t.tickCount = s.pc

/-- The program counter wraps: from 0xFFFFFFFFFFFFFFFC an iteration goes to 0 (section 3 of spec/10_state.md; the
spec's decision D6). -/
def Obligations.ProgramCounterWraps : Prop :=
  ∀ s : State, s.iterates → s.pc = 0xFFFFFFFFFFFFFFFC#64 → ∃ t, step s = .next t ∧ t.pc = 0#64

/-! ### Whole-machine rules and invariants -/

/-- Every step keeps the invariant: the program counter stays a multiple of 4, the storage of x0 stays 0, memory stays
canonical, and the machine stays reset. -/
def Obligations.InvariantKeptByEveryStep : Prop :=
  ∀ s t : State, s.Inv → step s = .next t → t.Inv

/-- The state after reset meets the invariant; so does the state after the reset operation on any state whose memory is
canonical, for every `ramSize` (State.reset is the model's choice of `ramSize` 0, log entry 1). -/
def Obligations.InvariantAtReset : Prop :=
  State.reset.Inv ∧ ∀ (s : State) (ramSize : Word), s.mem.wf → (s.applyReset ramSize).Inv

/-- From every state that a reset has preceded a step answers a next state: no fault, no refusal, no stuck state
(section 1 of spec/60_exceptions.md). -/
def Obligations.StepAlwaysAnswersAfterReset : Prop :=
  ∀ s : State, s.wasReset = true → ∃ t, step s = .next t ∧ t.wasReset = true

/-- The program counter changes in two ways only, by reset to 0 and by an iteration of the run loop by 4; no instruction
and no fetch changes it, and during an instruction it holds the instruction's address plus 4 (rule R26). That the step of a
`run` command itself adds 4 where `pc` lies below its limit rests on the entry and the first iteration being one step (rule
R191, the spec's decision D1) and on the guard tested before the first iteration (rule R183, decision D3). -/
def Obligations.ProgramCounterChangesInTwoWays : Prop :=
  (∀ s t : State, step s = .next t →
      t.pc = s.pc ∨
        (t.pc = s.pc + 4#64 ∧
          (s.iterates ∨ ∃ limit rest, s.accepts (.run limit) rest ∧ s.pc < limit)) ∨
        (t.pc = 0#64 ∧ s.runInProgress = false ∧ ∃ ramSize rest, s.hostQueue = .reset ramSize :: rest)) ∧
    (∀ (i : Instr) (s t : State), exec i s = .next t → t.pc = s.pc) ∧
    ∀ s : State, s.iterates → ∃ u t, executeWord s.fetchWord { s with pc := s.pc + 4#64 } = .next u ∧
      step s = .next t ∧ t.pc = s.pc + 4#64 ∧ u.pc = s.pc + 4#64

/-- Who changes the control state: the ceiling by `run` and reset only; the tick counter by one in an iteration, by
`run` (to 0, or 1 when its first iteration is in the same step) and by reset (section 4 of spec/10_state.md; the widths
are the spec's decisions D4 and D8, the values after reset D9, D8 and D2). That a `run` command leaves 1 exactly when
`pc` lies below its limit rests on the guard tested before the first iteration (section 3 of spec/44_run_loop.md,
decision D3) and on the entry and that iteration being one step (sections 1 and 4, decision D1). -/
def Obligations.ControlStateIsTheHosts : Prop :=
  ∀ s t : State, step s = .next t →
    (t.cycleBudget = s.cycleBudget ∧
        (t.tickCount = s.tickCount ∨ (s.iterates ∧ t.tickCount = s.tickCount + 1#64))) ∨
      (∃ limit rest, s.accepts (.run limit) rest ∧ t.cycleBudget = limit ∧
        t.tickCount = if s.pc < limit then 1#64 else 0#64) ∨
      ((∃ ramSize rest, s.runInProgress = false ∧ s.hostQueue = .reset ramSize :: rest) ∧
        t.cycleBudget = 0#64 ∧ t.tickCount = 0#64 ∧ t.mode = .halted)

/-- During a run the host has no move: a step of a run leaves the pending moves and the replies alone and does not
depend on the pending moves (section 5 of spec/70_reset_and_hazards.md; the spec's decision D14). -/
def Obligations.HostHasNoMoveDuringARun : Prop :=
  ∀ s t : State, s.runInProgress = true → step s = .next t →
    t.hostQueue = s.hostQueue ∧ t.replies = s.replies ∧
      ∀ moves, step { s with hostQueue := moves } = .next { t with hostQueue := moves }

/-- The diagnostic stream is append-only, a step emits at most one diagnostic, its opcode is an unimplemented one, and
no outcome depends on what the stream holds (section 2 of spec/43_null_unimplemented.md). -/
def Obligations.DiagnosticsAreAppendOnly : Prop :=
  ∀ s t : State, step s = .next t →
    ∃ emitted : List Opcode, emitted.length ≤ 1 ∧ (∀ op ∈ emitted, Opcode.unimplemented op) ∧
      ∀ d, step { s with diag := d } = .next { t with diag := d ++ emitted }

/-! ### Host commands (spec/70_reset_and_hazards.md) -/

/-- The reset command, for every `ramSize` and from every state with no run in progress (HALTED, or not reset yet
whatever `mode` holds): the values of the table of
section 6 of spec/10_state.md (`cycleBudget`, `tickCount` and `mode` are the spec's decisions D9, D8 and D2); memory, the
diagnostic stream and the replies stay. -/
def Obligations.ResetCommandValues : Prop :=
  ∀ (s : State) (ramSize : Word) (rest : List HostMove), s.runInProgress = false → s.hostQueue = .reset ramSize :: rest →
    ∃ t, step s = .next t ∧ t.pc = 0#64 ∧ t.readReg 1#5 = 32#32 ∧ t.readReg 2#5 = ramSize ∧
      (∀ j, j ≠ 1#5 → j ≠ 2#5 → t.readReg j = 0#32) ∧ t.cycleBudget = 0#64 ∧ t.tickCount = 0#64 ∧ t.mode = .halted ∧
      (∀ a, t.readByte a = s.readByte a) ∧ t.diag = s.diag ∧ t.replies = s.replies ∧ t.hostQueue = rest ∧
      t.wasReset = true

/-- The host's command `execute(word)` does what execute does and nothing more: program counter, tick counter, ceiling
and mode stay (sections of spec/41_decode_dispatch.md on who invokes execute). -/
def Obligations.ExecuteCommandOnlyExecutes : Prop :=
  ∀ (s : State) (w : Word) (rest : List HostMove), s.accepts (.execute w) rest →
    ∃ u t, executeWord w s = .next u ∧ step s = .next t ∧ t = { u with hostQueue := rest } ∧ t.pc = s.pc ∧
      t.tickCount = s.tickCount ∧ t.cycleBudget = s.cycleBudget ∧ t.mode = .halted

/-- The dump: one line per started group of four registers below min(tickCount, 32), each line the four registers'
numbers and values, and nothing else changes (section 6 of spec/70_reset_and_hazards.md; the exclusive bound is the
spec's decision D18, the line form is the model's, log entry 5). -/
def Obligations.DumpShowsRegisters : Prop :=
  ∀ (s : State) (rest : List HostMove), s.accepts .dump rest →
    ∃ lines, step s = .next { s with hostQueue := rest, replies := s.replies ++ [.dump lines] } ∧
      lines.length = (min s.tickCount.toNat 32 + 3) / 4 ∧
      ∀ k, k < lines.length →
        lines[k]? = some [(4 * k, s.readReg (BitVec.ofNat 5 (4 * k))),
          (4 * k + 1, s.readReg (BitVec.ofNat 5 (4 * k + 1))), (4 * k + 2, s.readReg (BitVec.ofNat 5 (4 * k + 2))),
          (4 * k + 3, s.readReg (BitVec.ofNat 5 (4 * k + 3)))]

/-- Before the first reset, whatever `mode` and every other element hold, the core refuses `fetch`, `execute`, `run` and
`dump` (section 6 of spec/10_state.md; the spec's decision D17 and the treatment of U8; the refusal's form is the model's,
log entry 6). -/
def Obligations.OnlyResetBeforeTheFirstReset : Prop :=
  ∀ (s : State) (m : HostMove) (rest : List HostMove), s.wasReset = false →
    s.hostQueue = m :: rest → (∀ r, m ≠ .reset r) → (∀ a b, m ≠ .writeByte a b) →
      step s = .refused .beforeFirstReset

/-- No run in progress (HALTED, or not reset yet) and no move of the host pending: the machine waits (section 3 of
spec/44_run_loop.md; the idle step is the model's, log entries 4 and 6). -/
def Obligations.HaltedMachineWaits : Prop :=
  ∀ s : State, s.runInProgress = false → s.hostQueue = [] → step s = .next s

/-! ### Steps before the first reset and steps of an endless run -/

/-- A run that never ends, as an invariant of every step (section 4 of spec/44_run_loop.md, R190): from every state of a
run with an aligned program counter and a ceiling above 0xFFFFFFFFFFFFFFFC, whatever memory and the registers hold, a step
answers a state of that run again, with the same ceiling, and the program counter 4 further modulo 2^64. It rests on the
spec's decisions D5 (the early exit compares the zero-extended x2) and D6 (the program counter wraps). -/
def Obligations.EndlessRunIsKeptByEveryStep : Prop :=
  ∀ s : State, s.RunsForever →
    ∃ t, step s = .next t ∧ t.RunsForever ∧ t.cycleBudget = s.cycleBudget ∧ t.pc = s.pc + 4#64

/-- Before the first reset no instruction runs, whatever `mode` holds (section 6 of spec/10_state.md; the spec's decision
D17): a step that goes on either performs the host's `reset`, which leaves the machine HALTED and reset, or changes
nothing but the host's own, its pending moves and its memory (log entry 6). -/
def Obligations.NothingRunsBeforeTheFirstReset : Prop :=
  ∀ s t : State, s.wasReset = false → step s = .next t →
    (∃ ramSize rest, s.hostQueue = .reset ramSize :: rest ∧ t.wasReset = true ∧ t.mode = .halted ∧ t.pc = 0#64 ∧
        t.readReg 2#5 = ramSize ∧ t.diag = s.diag) ∨
      t = { s with hostQueue := t.hostQueue, mem := t.mem }
end

