-- ==== Sys2Proof/Laws/Encoding.lean ====
section
/-! SUPPORT. The small lemmas of the encoder and the decoder. -/

namespace Sys2Proof

/-- The field widths already guarantee well-formedness (spec/10_state.md rule R23). -/
theorem Instr.wellFormed_all (i : Instr) : i.wellFormed = true := by
  have hr : ∀ r : RegIdx, decide (r.toNat < 32) = true := by decide
  have hm : ∀ m : Imm12, (decide (-2048 ≤ m.toInt) && decide (m.toInt ≤ 2047)) = true := by
    intro m
    have h₁ := BitVec.le_toInt m
    have h₂ := BitVec.toInt_lt (x := m)
    simp at h₁ h₂
    simp
    omega
  simp only [Instr.wellFormed, Bool.and_eq_true, List.all_eq_true]
  exact ⟨fun r _ => hr r, fun m _ => by simpa using hm m⟩

/-! ### Words of the encoder, bit by bit -/

theorem encodeI_opcode_bits (op : Opcode) (rd rs1 : RegIdx) (imm : Imm12) :
    encodeI op rd rs1 imm &&& 0x7F#32 = op.setWidth 32 := by
  apply BitVec.eq_of_getLsbD_eq
  intro i hi
  interval_cases i <;> simp [encodeI]

theorem encodeI_not_examined (rd rs1 : RegIdx) (imm : Imm12) :
    encodeI 0x13#7 rd rs1 imm &&& ~~~ examinedBits 0x13#7 = 0#32 := by
  apply BitVec.eq_of_getLsbD_eq
  intro i hi
  interval_cases i <;> simp [encodeI, examinedBits]

theorem encodeR_opcode_bits (op : Opcode) (rd rs1 rs2 : RegIdx) :
    encodeR op rd rs1 rs2 &&& 0x7F#32 = op.setWidth 32 := by
  apply BitVec.eq_of_getLsbD_eq
  intro i hi
  interval_cases i <;> simp [encodeR]

theorem encodeR_not_examined (rd rs1 rs2 : RegIdx) :
    encodeR 0x33#7 rd rs1 rs2 &&& ~~~ examinedBits 0x33#7 = 0#32 := by
  apply BitVec.eq_of_getLsbD_eq
  intro i hi
  interval_cases i <;> simp [encodeR, examinedBits]

/-- The law of a class that uses its opcode field only. -/
theorem encodeOpcodeOnly_bits (op : Opcode) (h13 : op ≠ 0x13#7) (h33 : op ≠ 0x33#7) :
    encodeOpcodeOnly op &&& 0x7F#32 = op.setWidth 32 ∧
      encodeOpcodeOnly op &&& ~~~ examinedBits op = 0#32 := by
  revert op
  decide

/-! ### Fields of an encoded word -/

theorem opcodeOf_encodeI (op : Opcode) (rd rs1 : RegIdx) (imm : Imm12) : opcodeOf (encodeI op rd rs1 imm) = op := by
  apply BitVec.eq_of_getLsbD_eq
  intro i hi
  interval_cases i <;> simp [opcodeOf, encodeI]

theorem rdOf_encodeI (op : Opcode) (rd rs1 : RegIdx) (imm : Imm12) : rdOf (encodeI op rd rs1 imm) = rd := by
  apply BitVec.eq_of_getLsbD_eq
  intro i hi
  interval_cases i <;> simp [rdOf, encodeI]

theorem rs1Of_encodeI (op : Opcode) (rd rs1 : RegIdx) (imm : Imm12) : rs1Of (encodeI op rd rs1 imm) = rs1 := by
  apply BitVec.eq_of_getLsbD_eq
  intro i hi
  interval_cases i <;> simp [rs1Of, encodeI]

theorem immOf_encodeI (op : Opcode) (rd rs1 : RegIdx) (imm : Imm12) : immOf (encodeI op rd rs1 imm) = imm := by
  apply BitVec.eq_of_getLsbD_eq
  intro i hi
  interval_cases i <;> simp [immOf, encodeI]

theorem opcodeOf_encodeR (op : Opcode) (rd rs1 rs2 : RegIdx) : opcodeOf (encodeR op rd rs1 rs2) = op := by
  apply BitVec.eq_of_getLsbD_eq
  intro i hi
  interval_cases i <;> simp [opcodeOf, encodeR]

theorem rdOf_encodeR (op : Opcode) (rd rs1 rs2 : RegIdx) : rdOf (encodeR op rd rs1 rs2) = rd := by
  apply BitVec.eq_of_getLsbD_eq
  intro i hi
  interval_cases i <;> simp [rdOf, encodeR]

theorem rs1Of_encodeR (op : Opcode) (rd rs1 rs2 : RegIdx) : rs1Of (encodeR op rd rs1 rs2) = rs1 := by
  apply BitVec.eq_of_getLsbD_eq
  intro i hi
  interval_cases i <;> simp [rs1Of, encodeR]

theorem rs2Of_encodeR (op : Opcode) (rd rs1 rs2 : RegIdx) : rs2Of (encodeR op rd rs1 rs2) = rs2 := by
  apply BitVec.eq_of_getLsbD_eq
  intro i hi
  interval_cases i <;> simp [rs2Of, encodeR]

theorem opcodeOf_encodeOpcodeOnly (op : Opcode) : opcodeOf (encodeOpcodeOnly op) = op := by
  revert op
  decide

/-! ### Bytes -/

/-- Splitting a word into its bytes and assembling them again gives the word (spec/40_fetch.md rule R118). -/
theorem assembleWord_wordBytes (w : Word) :
    assembleWord (w.extractLsb' 0 8) (w.extractLsb' 8 8) (w.extractLsb' 16 8) (w.extractLsb' 24 8) = w := by
  apply BitVec.eq_of_getLsbD_eq
  intro i hi
  interval_cases i <;> simp [assembleWord]

/-- The decoder on the bytes of a word is the decoder on the word. -/
theorem decode_wordBytes (w : Word) : decode (wordBytes w) = .ok (decodeWord w, []) := by
  simp only [wordBytes, decode, assembleWord_wordBytes]

/-! ### The opcode map -/

/-- Every opcode outside the three named ones has its own row, and the row's instruction has that opcode (rule R85). -/
theorem unimpOf_opcode (op : Opcode) (h0 : op ≠ 0x00#7) (h13 : op ≠ 0x13#7) (h33 : op ≠ 0x33#7) :
    (unimpOf op).opcode = op := by
  revert op
  decide

/-- The opcodes of the UNIMP rows are pairwise different: no two rows of the table overlap (rule R85). -/
theorem unimpRows_opcodes_distinct : (unimpRows.map Prod.fst).Nodup := by
  have h : unimpRows.map (fun r => r.1.toNat) =
      (List.range 128).filter (fun n => n != 0x00 && n != 0x13 && n != 0x33) := by decide
  have hn : (unimpRows.map (fun r => r.1.toNat)).Nodup := h ▸ List.Nodup.filter _ List.nodup_range
  exact (List.Nodup.of_map BitVec.toNat (by rw [List.map_map]; exact hn))

end Sys2Proof
end

