-- ==== Sys2Proof/Laws/State.lean ====
section
/-! SUPPORT. One lemma per field and update, so that no later proof unfolds a record update. -/

namespace Sys2Proof.Machine

variable (s : State)

/-! ### writeReg -/

@[simp] theorem State.writeReg_pc (i : RegIdx) (v : Word) : (s.writeReg i v).pc = s.pc := by
  unfold State.writeReg; split <;> rfl
@[simp] theorem State.writeReg_cycleBudget (i : RegIdx) (v : Word) : (s.writeReg i v).cycleBudget = s.cycleBudget := by
  unfold State.writeReg; split <;> rfl
@[simp] theorem State.writeReg_tickCount (i : RegIdx) (v : Word) : (s.writeReg i v).tickCount = s.tickCount := by
  unfold State.writeReg; split <;> rfl
@[simp] theorem State.writeReg_mode (i : RegIdx) (v : Word) : (s.writeReg i v).mode = s.mode := by
  unfold State.writeReg; split <;> rfl
@[simp] theorem State.writeReg_mem (i : RegIdx) (v : Word) : (s.writeReg i v).mem = s.mem := by
  unfold State.writeReg; split <;> rfl
@[simp] theorem State.writeReg_diag (i : RegIdx) (v : Word) : (s.writeReg i v).diag = s.diag := by
  unfold State.writeReg; split <;> rfl
@[simp] theorem State.writeReg_replies (i : RegIdx) (v : Word) : (s.writeReg i v).replies = s.replies := by
  unfold State.writeReg; split <;> rfl
@[simp] theorem State.writeReg_hostQueue (i : RegIdx) (v : Word) : (s.writeReg i v).hostQueue = s.hostQueue := by
  unfold State.writeReg; split <;> rfl
@[simp] theorem State.writeReg_wasReset (i : RegIdx) (v : Word) : (s.writeReg i v).wasReset = s.wasReset := by
  unfold State.writeReg; split <;> rfl

/-! ### writeByte -/

@[simp] theorem State.writeByte_regs (a : Addr) (b : Byte) : (s.writeByte a b).regs = s.regs := rfl
@[simp] theorem State.writeByte_pc (a : Addr) (b : Byte) : (s.writeByte a b).pc = s.pc := rfl
@[simp] theorem State.writeByte_cycleBudget (a : Addr) (b : Byte) : (s.writeByte a b).cycleBudget = s.cycleBudget := rfl
@[simp] theorem State.writeByte_tickCount (a : Addr) (b : Byte) : (s.writeByte a b).tickCount = s.tickCount := rfl
@[simp] theorem State.writeByte_mode (a : Addr) (b : Byte) : (s.writeByte a b).mode = s.mode := rfl
@[simp] theorem State.writeByte_mem (a : Addr) (b : Byte) : (s.writeByte a b).mem = s.mem.write a.toNat b := rfl
@[simp] theorem State.writeByte_diag (a : Addr) (b : Byte) : (s.writeByte a b).diag = s.diag := rfl
@[simp] theorem State.writeByte_replies (a : Addr) (b : Byte) : (s.writeByte a b).replies = s.replies := rfl
@[simp] theorem State.writeByte_hostQueue (a : Addr) (b : Byte) : (s.writeByte a b).hostQueue = s.hostQueue := rfl
@[simp] theorem State.writeByte_wasReset (a : Addr) (b : Byte) : (s.writeByte a b).wasReset = s.wasReset := rfl

/-! ### emitDiag -/

@[simp] theorem State.emitDiag_regs (op : Opcode) : (s.emitDiag op).regs = s.regs := rfl
@[simp] theorem State.emitDiag_pc (op : Opcode) : (s.emitDiag op).pc = s.pc := rfl
@[simp] theorem State.emitDiag_cycleBudget (op : Opcode) : (s.emitDiag op).cycleBudget = s.cycleBudget := rfl
@[simp] theorem State.emitDiag_tickCount (op : Opcode) : (s.emitDiag op).tickCount = s.tickCount := rfl
@[simp] theorem State.emitDiag_mode (op : Opcode) : (s.emitDiag op).mode = s.mode := rfl
@[simp] theorem State.emitDiag_mem (op : Opcode) : (s.emitDiag op).mem = s.mem := rfl
@[simp] theorem State.emitDiag_diag (op : Opcode) : (s.emitDiag op).diag = s.diag ++ [op] := rfl
@[simp] theorem State.emitDiag_replies (op : Opcode) : (s.emitDiag op).replies = s.replies := rfl
@[simp] theorem State.emitDiag_hostQueue (op : Opcode) : (s.emitDiag op).hostQueue = s.hostQueue := rfl
@[simp] theorem State.emitDiag_wasReset (op : Opcode) : (s.emitDiag op).wasReset = s.wasReset := rfl

/-! ### reply -/

@[simp] theorem State.reply_regs (r : Reply) : (s.reply r).regs = s.regs := rfl
@[simp] theorem State.reply_pc (r : Reply) : (s.reply r).pc = s.pc := rfl
@[simp] theorem State.reply_cycleBudget (r : Reply) : (s.reply r).cycleBudget = s.cycleBudget := rfl
@[simp] theorem State.reply_tickCount (r : Reply) : (s.reply r).tickCount = s.tickCount := rfl
@[simp] theorem State.reply_mode (r : Reply) : (s.reply r).mode = s.mode := rfl
@[simp] theorem State.reply_mem (r : Reply) : (s.reply r).mem = s.mem := rfl
@[simp] theorem State.reply_diag (r : Reply) : (s.reply r).diag = s.diag := rfl
@[simp] theorem State.reply_replies (r : Reply) : (s.reply r).replies = s.replies ++ [r] := rfl
@[simp] theorem State.reply_hostQueue (r : Reply) : (s.reply r).hostQueue = s.hostQueue := rfl
@[simp] theorem State.reply_wasReset (r : Reply) : (s.reply r).wasReset = s.wasReset := rfl

/-! ### advancePc -/

@[simp] theorem State.advancePc_regs : (s.advancePc).regs = s.regs := rfl
@[simp] theorem State.advancePc_pc : (s.advancePc).pc = s.pc + Config.instrBytes := rfl
@[simp] theorem State.advancePc_cycleBudget : (s.advancePc).cycleBudget = s.cycleBudget := rfl
@[simp] theorem State.advancePc_tickCount : (s.advancePc).tickCount = s.tickCount := rfl
@[simp] theorem State.advancePc_mode : (s.advancePc).mode = s.mode := rfl
@[simp] theorem State.advancePc_mem : (s.advancePc).mem = s.mem := rfl
@[simp] theorem State.advancePc_diag : (s.advancePc).diag = s.diag := rfl
@[simp] theorem State.advancePc_replies : (s.advancePc).replies = s.replies := rfl
@[simp] theorem State.advancePc_hostQueue : (s.advancePc).hostQueue = s.hostQueue := rfl
@[simp] theorem State.advancePc_wasReset : (s.advancePc).wasReset = s.wasReset := rfl

/-! ### countTick -/

@[simp] theorem State.countTick_regs : (s.countTick).regs = s.regs := rfl
@[simp] theorem State.countTick_pc : (s.countTick).pc = s.pc := rfl
@[simp] theorem State.countTick_cycleBudget : (s.countTick).cycleBudget = s.cycleBudget := rfl
@[simp] theorem State.countTick_tickCount : (s.countTick).tickCount = s.tickCount + 1#64 := rfl
@[simp] theorem State.countTick_mode : (s.countTick).mode = s.mode := rfl
@[simp] theorem State.countTick_mem : (s.countTick).mem = s.mem := rfl
@[simp] theorem State.countTick_diag : (s.countTick).diag = s.diag := rfl
@[simp] theorem State.countTick_replies : (s.countTick).replies = s.replies := rfl
@[simp] theorem State.countTick_hostQueue : (s.countTick).hostQueue = s.hostQueue := rfl
@[simp] theorem State.countTick_wasReset : (s.countTick).wasReset = s.wasReset := rfl

/-! ### halt -/

@[simp] theorem State.halt_regs : (s.halt).regs = s.regs := rfl
@[simp] theorem State.halt_pc : (s.halt).pc = s.pc := rfl
@[simp] theorem State.halt_cycleBudget : (s.halt).cycleBudget = s.cycleBudget := rfl
@[simp] theorem State.halt_tickCount : (s.halt).tickCount = s.tickCount := rfl
@[simp] theorem State.halt_mode : (s.halt).mode = .halted := rfl
@[simp] theorem State.halt_mem : (s.halt).mem = s.mem := rfl
@[simp] theorem State.halt_diag : (s.halt).diag = s.diag := rfl
@[simp] theorem State.halt_replies : (s.halt).replies = s.replies := rfl
@[simp] theorem State.halt_hostQueue : (s.halt).hostQueue = s.hostQueue := rfl
@[simp] theorem State.halt_wasReset : (s.halt).wasReset = s.wasReset := rfl

/-! ### enterRun -/

@[simp] theorem State.enterRun_regs (limit : Addr) : (s.enterRun limit).regs = s.regs := rfl
@[simp] theorem State.enterRun_pc (limit : Addr) : (s.enterRun limit).pc = s.pc := rfl
@[simp] theorem State.enterRun_cycleBudget (limit : Addr) : (s.enterRun limit).cycleBudget = limit := rfl
@[simp] theorem State.enterRun_tickCount (limit : Addr) : (s.enterRun limit).tickCount = 0#64 := rfl
@[simp] theorem State.enterRun_mode (limit : Addr) : (s.enterRun limit).mode = .running := rfl
@[simp] theorem State.enterRun_mem (limit : Addr) : (s.enterRun limit).mem = s.mem := rfl
@[simp] theorem State.enterRun_diag (limit : Addr) : (s.enterRun limit).diag = s.diag := rfl
@[simp] theorem State.enterRun_replies (limit : Addr) : (s.enterRun limit).replies = s.replies := rfl
@[simp] theorem State.enterRun_hostQueue (limit : Addr) : (s.enterRun limit).hostQueue = s.hostQueue := rfl
@[simp] theorem State.enterRun_wasReset (limit : Addr) : (s.enterRun limit).wasReset = s.wasReset := rfl

/-! ### applyReset -/

@[simp] theorem State.applyReset_regs (r : Word) : (s.applyReset r).regs = RegFile.reset r := rfl
@[simp] theorem State.applyReset_pc (r : Word) : (s.applyReset r).pc = Config.resetPc := rfl
@[simp] theorem State.applyReset_cycleBudget (r : Word) : (s.applyReset r).cycleBudget = 0#64 := rfl
@[simp] theorem State.applyReset_tickCount (r : Word) : (s.applyReset r).tickCount = 0#64 := rfl
@[simp] theorem State.applyReset_mode (r : Word) : (s.applyReset r).mode = .halted := rfl
@[simp] theorem State.applyReset_mem (r : Word) : (s.applyReset r).mem = s.mem := rfl
@[simp] theorem State.applyReset_diag (r : Word) : (s.applyReset r).diag = s.diag := rfl
@[simp] theorem State.applyReset_replies (r : Word) : (s.applyReset r).replies = s.replies := rfl
@[simp] theorem State.applyReset_hostQueue (r : Word) : (s.applyReset r).hostQueue = s.hostQueue := rfl
@[simp] theorem State.applyReset_wasReset (r : Word) : (s.applyReset r).wasReset = true := rfl

/-! ### finishIteration: the two ends of an iteration -/

@[simp] theorem State.finishIteration_regs : s.finishIteration.regs = s.regs := by
  unfold State.finishIteration; split <;> rfl
@[simp] theorem State.finishIteration_pc : s.finishIteration.pc = s.pc := by
  unfold State.finishIteration; split <;> rfl
@[simp] theorem State.finishIteration_cycleBudget : s.finishIteration.cycleBudget = s.cycleBudget := by
  unfold State.finishIteration; split <;> rfl
@[simp] theorem State.finishIteration_tickCount : s.finishIteration.tickCount = s.tickCount + 1#64 := by
  unfold State.finishIteration; split <;> rfl
theorem State.finishIteration_mode :
    s.finishIteration.mode = if s.countTick.earlyExit then .halted else s.mode := by
  unfold State.finishIteration; split <;> rfl
@[simp] theorem State.finishIteration_mem : s.finishIteration.mem = s.mem := by
  unfold State.finishIteration; split <;> rfl
@[simp] theorem State.finishIteration_diag : s.finishIteration.diag = s.diag := by
  unfold State.finishIteration; split <;> rfl
@[simp] theorem State.finishIteration_replies : s.finishIteration.replies = s.replies := by
  unfold State.finishIteration; split <;> rfl
@[simp] theorem State.finishIteration_hostQueue : s.finishIteration.hostQueue = s.hostQueue := by
  unfold State.finishIteration; split <;> rfl
@[simp] theorem State.finishIteration_wasReset : s.finishIteration.wasReset = s.wasReset := by
  unfold State.finishIteration; split <;> rfl

/-! ### Reads through an update: they depend on one field only -/

/-- A register read depends on the register file only. -/
theorem State.readReg_congr {s t : State} (h : s.regs = t.regs) (i : RegIdx) : s.readReg i = t.readReg i := by
  unfold State.readReg; simp only [h]

/-- A byte read depends on the memory only. -/
theorem State.readByte_congr {s t : State} (h : s.mem = t.mem) (a : Addr) : s.readByte a = t.readByte a := by
  unfold State.readByte; rw [h]

@[simp] theorem State.writeReg_readByte (i : RegIdx) (v : Word) (a : Addr) : (s.writeReg i v).readByte a = s.readByte a :=
  State.readByte_congr (s.writeReg_mem i v) a
@[simp] theorem State.writeByte_readReg (a : Addr) (b : Byte) (j : RegIdx) : (s.writeByte a b).readReg j = s.readReg j :=
  State.readReg_congr rfl j
@[simp] theorem State.emitDiag_readReg (op : Opcode) (j : RegIdx) : (s.emitDiag op).readReg j = s.readReg j :=
  State.readReg_congr rfl j
@[simp] theorem State.emitDiag_readByte (op : Opcode) (a : Addr) : (s.emitDiag op).readByte a = s.readByte a :=
  State.readByte_congr rfl a
@[simp] theorem State.reply_readReg (r : Reply) (j : RegIdx) : (s.reply r).readReg j = s.readReg j :=
  State.readReg_congr rfl j
@[simp] theorem State.reply_readByte (r : Reply) (a : Addr) : (s.reply r).readByte a = s.readByte a :=
  State.readByte_congr rfl a
@[simp] theorem State.advancePc_readReg (j : RegIdx) : (s.advancePc).readReg j = s.readReg j :=
  State.readReg_congr rfl j
@[simp] theorem State.advancePc_readByte (a : Addr) : (s.advancePc).readByte a = s.readByte a :=
  State.readByte_congr rfl a
@[simp] theorem State.countTick_readReg (j : RegIdx) : (s.countTick).readReg j = s.readReg j :=
  State.readReg_congr rfl j
@[simp] theorem State.countTick_readByte (a : Addr) : (s.countTick).readByte a = s.readByte a :=
  State.readByte_congr rfl a
@[simp] theorem State.halt_readReg (j : RegIdx) : (s.halt).readReg j = s.readReg j :=
  State.readReg_congr rfl j
@[simp] theorem State.halt_readByte (a : Addr) : (s.halt).readByte a = s.readByte a :=
  State.readByte_congr rfl a
@[simp] theorem State.enterRun_readReg (limit : Addr) (j : RegIdx) : (s.enterRun limit).readReg j = s.readReg j :=
  State.readReg_congr rfl j
@[simp] theorem State.enterRun_readByte (limit : Addr) (a : Addr) : (s.enterRun limit).readByte a = s.readByte a :=
  State.readByte_congr rfl a
@[simp] theorem State.applyReset_readByte (r : Word) (a : Addr) : (s.applyReset r).readByte a = s.readByte a :=
  State.readByte_congr rfl a
@[simp] theorem State.finishIteration_readReg (j : RegIdx) : s.finishIteration.readReg j = s.readReg j :=
  State.readReg_congr s.finishIteration_regs j
@[simp] theorem State.finishIteration_readByte (a : Addr) : s.finishIteration.readByte a = s.readByte a :=
  State.readByte_congr s.finishIteration_mem a

end Sys2Proof.Machine
end

