-- ==== Sys2Proof/Laws/Ops.lean ====
section
/-! SUPPORT. What each shared operation over memory and registers can do, said once. -/

namespace Sys2Proof.Machine

/-! ### Memory -/

/-- A read after a write gives the value written at the written address, and what it gave before elsewhere. -/
theorem Memory.lookup_write (m : Memory) (a a' : Nat) (b : Byte) :
    (Memory.write m a b).lookup a' = if a' = a then some b else Memory.lookup m a' := by
  induction m with
  | nil => simp [Memory.write, Memory.lookup, eq_comm]
  | cons c rest ih =>
    obtain ⟨k, v⟩ := c
    simp only [Memory.write]
    split
    · by_cases h : a' = a
      · simp [Memory.lookup, h]
      · simp [Memory.lookup, h, Ne.symm h]
    · split
      · rename_i hk
        subst hk
        by_cases h : a' = a
        · simp [Memory.lookup, h]
        · simp [Memory.lookup, h, Ne.symm h]
      · rename_i h₁ h₂
        by_cases h : a' = a
        · subst h
          simp [Memory.lookup, Ne.symm h₂, ih]
        · simp only [Memory.lookup, ih, h, if_false]

/-- The cells after a write are the written one and cells that were there. -/
theorem Memory.mem_write {m : Memory} {a : Nat} {b : Byte} {p : Host.Cell} (h : p ∈ Memory.write m a b) :
    p = (a, b) ∨ p ∈ m := by
  induction m with
  | nil => simpa [Memory.write] using h
  | cons c rest ih =>
    obtain ⟨k, v⟩ := c
    simp only [Memory.write] at h
    split at h
    · simpa using h
    · split at h
      · rcases List.mem_cons.1 h with h | h
        · exact .inl h
        · exact .inr (List.mem_cons_of_mem _ h)
      · rcases List.mem_cons.1 h with h | h
        · exact .inr (h ▸ List.mem_cons_self ..)
        · exact (ih h).imp id (List.mem_cons_of_mem _)

/-- Every write keeps the canonical form. -/
theorem Memory.wf_write {m : Memory} (hm : m.wf) (a : Nat) (ha : a < 2 ^ 64) (b : Byte) : (Memory.write m a b).wf := by
  refine ⟨?_, fun p hp => ?_⟩
  · have hs := hm.1
    clear hm
    induction m with
    | nil => simp [Memory.write]
    | cons c rest ih =>
      obtain ⟨k, v⟩ := c
      obtain ⟨hk, hrest⟩ := List.pairwise_cons.1 hs
      simp only [Memory.write]
      split
      · rename_i hak
        refine List.pairwise_cons.2 ⟨fun q hq => ?_, hs⟩
        rcases List.mem_cons.1 hq with rfl | hq
        · exact hak
        · exact hak.trans (hk q hq)
      · split
        · rename_i hak
          subst hak
          exact List.pairwise_cons.2 ⟨hk, hrest⟩
        · rename_i h₁ h₂
          refine List.pairwise_cons.2 ⟨fun q hq => ?_, ih hrest⟩
          rcases Memory.mem_write hq with rfl | hq
          · simp only
            omega
          · exact hk q hq
  · rcases Memory.mem_write hp with rfl | hp
    · exact ha
    · exact hm.2 p hp

/-- What a host's byte store changes of the bytes the core reads. -/
@[simp] theorem State.readByte_writeByte (s : State) (a a' : Addr) (b : Byte) :
    (s.writeByte a b).readByte a' = if a' = a then b else s.readByte a' := by
  unfold State.readByte
  simp only [State.writeByte_mem, Memory.lookup_write]
  by_cases h : a' = a
  · simp [h]
  · have hn : a'.toNat ≠ a.toNat := fun e => h (BitVec.eq_of_toNat_eq e)
    simp [h, hn]

/-- A host's byte store keeps the canonical form. -/
theorem State.writeByte_wf {s : State} (hs : s.mem.wf) (a : Addr) (b : Byte) : (s.writeByte a b).mem.wf :=
  Memory.wf_write hs a.toNat a.isLt b

/-! ### Registers -/

/-- x0 reads 0 in every state (spec/10_state.md rule R22). -/
@[simp] theorem State.readReg_zero (s : State) : s.readReg 0#5 = 0#32 := rfl

/-- A read after a write through the ports: the value written, unless the register is x0 (rules R22 and R134). -/
theorem State.readReg_writeReg (s : State) (i j : RegIdx) (v : Word) :
    (s.writeReg i v).readReg j = if j = i ∧ i ≠ 0#5 then v else s.readReg j := by
  unfold State.writeReg
  by_cases hi : i = 0#5
  · simp [hi]
  · simp only [hi, if_false, State.readReg]
    by_cases hj : j = 0#5
    · have : ¬ j = i := fun e => hi (e ▸ hj)
      simp [hj, Ne.symm hi]
    · by_cases h : j = i
      · subst h
        simp [hj]
      · have hn : i.toNat ≠ j.toNat := fun e => h (BitVec.eq_of_toNat_eq e).symm
        simp [hj, h, hn]

/-- A write to x0 is discarded (rule R22). -/
@[simp] theorem State.writeReg_zero (s : State) (v : Word) : s.writeReg 0#5 v = s := rfl

/-- No register write touches the storage of x0 (rule R22). -/
theorem State.writeReg_storage_zero (s : State) (i : RegIdx) (v : Word) :
    (s.writeReg i v).regs[0] = s.regs[0] := by
  unfold State.writeReg
  by_cases hi : i = 0#5
  · simp [hi]
  · have hn : i.toNat ≠ 0 := fun e => hi (BitVec.eq_of_toNat_eq (by simpa using e))
    simp only [hi, if_false]
    exact Vector.getElem_set_ne _ _ hn

/-- The register file after reset holds 0 in the storage of x0 (rule R37). -/
theorem RegFile.reset_storage_zero (r : Word) : (RegFile.reset r)[0] = 0#32 := by
  simp [RegFile.reset]

end Sys2Proof.Machine
end

