-- ==== Sys2Proof/Laws/PerInstr.lean ====
section
/-! SUPPORT. The per-instruction law OpcodeField: one lemma per constructor of Instr. -/

namespace Sys2Proof.Laws

/-- The canonical word of the instruction meets its opcode-table row (`w & 0x7F = match`, spec/30_encoding.md rule R85),
sets no bit that the hardware does not examine (rule R83), and the instruction is well-formed (rule R23). -/
def OpcodeField.Statement (i : Instr) : Prop :=
  encode i &&& 0x7F#32 = i.opcode.setWidth 32 ∧ encode i &&& ~~~ examinedBits i.opcode = 0#32 ∧ i.wellFormed = true

/-- The law of every instruction whose word holds its opcode only. -/
theorem OpcodeField.of_opcodeOnly (i : Instr) (he : encode i = encodeOpcodeOnly i.opcode)
    (h13 : i.opcode ≠ 0x13#7) (h33 : i.opcode ≠ 0x33#7) : OpcodeField.Statement i := by
  have h := encodeOpcodeOnly_bits i.opcode h13 h33
  exact ⟨he ▸ h.1, he ▸ h.2, Instr.wellFormed_all i⟩

theorem OpcodeField.null : OpcodeField.Statement .null :=
  OpcodeField.of_opcodeOnly _ rfl (by decide) (by decide)

theorem OpcodeField.addi (rd rs1 : RegIdx) (imm : Imm12) : OpcodeField.Statement (.addi rd rs1 imm) :=
  ⟨encodeI_opcode_bits _ _ _ _, encodeI_not_examined _ _ _, Instr.wellFormed_all _⟩

theorem OpcodeField.add (rd rs1 rs2 : RegIdx) : OpcodeField.Statement (.add rd rs1 rs2) :=
  ⟨encodeR_opcode_bits _ _ _ _, encodeR_not_examined _ _ _, Instr.wellFormed_all _⟩

theorem OpcodeField.unimp01 : OpcodeField.Statement .unimp01 :=
  OpcodeField.of_opcodeOnly _ rfl (by decide) (by decide)

theorem OpcodeField.unimp02 : OpcodeField.Statement .unimp02 :=
  OpcodeField.of_opcodeOnly _ rfl (by decide) (by decide)

theorem OpcodeField.unimp03 : OpcodeField.Statement .unimp03 :=
  OpcodeField.of_opcodeOnly _ rfl (by decide) (by decide)

theorem OpcodeField.unimp04 : OpcodeField.Statement .unimp04 :=
  OpcodeField.of_opcodeOnly _ rfl (by decide) (by decide)

theorem OpcodeField.unimp05 : OpcodeField.Statement .unimp05 :=
  OpcodeField.of_opcodeOnly _ rfl (by decide) (by decide)

theorem OpcodeField.unimp06 : OpcodeField.Statement .unimp06 :=
  OpcodeField.of_opcodeOnly _ rfl (by decide) (by decide)

theorem OpcodeField.unimp07 : OpcodeField.Statement .unimp07 :=
  OpcodeField.of_opcodeOnly _ rfl (by decide) (by decide)

theorem OpcodeField.unimp08 : OpcodeField.Statement .unimp08 :=
  OpcodeField.of_opcodeOnly _ rfl (by decide) (by decide)

theorem OpcodeField.unimp09 : OpcodeField.Statement .unimp09 :=
  OpcodeField.of_opcodeOnly _ rfl (by decide) (by decide)

theorem OpcodeField.unimp0A : OpcodeField.Statement .unimp0A :=
  OpcodeField.of_opcodeOnly _ rfl (by decide) (by decide)

theorem OpcodeField.unimp0B : OpcodeField.Statement .unimp0B :=
  OpcodeField.of_opcodeOnly _ rfl (by decide) (by decide)

theorem OpcodeField.unimp0C : OpcodeField.Statement .unimp0C :=
  OpcodeField.of_opcodeOnly _ rfl (by decide) (by decide)

theorem OpcodeField.unimp0D : OpcodeField.Statement .unimp0D :=
  OpcodeField.of_opcodeOnly _ rfl (by decide) (by decide)

theorem OpcodeField.unimp0E : OpcodeField.Statement .unimp0E :=
  OpcodeField.of_opcodeOnly _ rfl (by decide) (by decide)

theorem OpcodeField.unimp0F : OpcodeField.Statement .unimp0F :=
  OpcodeField.of_opcodeOnly _ rfl (by decide) (by decide)

theorem OpcodeField.unimp10 : OpcodeField.Statement .unimp10 :=
  OpcodeField.of_opcodeOnly _ rfl (by decide) (by decide)

theorem OpcodeField.unimp11 : OpcodeField.Statement .unimp11 :=
  OpcodeField.of_opcodeOnly _ rfl (by decide) (by decide)

theorem OpcodeField.unimp12 : OpcodeField.Statement .unimp12 :=
  OpcodeField.of_opcodeOnly _ rfl (by decide) (by decide)

theorem OpcodeField.unimp14 : OpcodeField.Statement .unimp14 :=
  OpcodeField.of_opcodeOnly _ rfl (by decide) (by decide)

theorem OpcodeField.unimp15 : OpcodeField.Statement .unimp15 :=
  OpcodeField.of_opcodeOnly _ rfl (by decide) (by decide)

theorem OpcodeField.unimp16 : OpcodeField.Statement .unimp16 :=
  OpcodeField.of_opcodeOnly _ rfl (by decide) (by decide)

theorem OpcodeField.unimp17 : OpcodeField.Statement .unimp17 :=
  OpcodeField.of_opcodeOnly _ rfl (by decide) (by decide)

theorem OpcodeField.unimp18 : OpcodeField.Statement .unimp18 :=
  OpcodeField.of_opcodeOnly _ rfl (by decide) (by decide)

theorem OpcodeField.unimp19 : OpcodeField.Statement .unimp19 :=
  OpcodeField.of_opcodeOnly _ rfl (by decide) (by decide)

theorem OpcodeField.unimp1A : OpcodeField.Statement .unimp1A :=
  OpcodeField.of_opcodeOnly _ rfl (by decide) (by decide)

theorem OpcodeField.unimp1B : OpcodeField.Statement .unimp1B :=
  OpcodeField.of_opcodeOnly _ rfl (by decide) (by decide)

theorem OpcodeField.unimp1C : OpcodeField.Statement .unimp1C :=
  OpcodeField.of_opcodeOnly _ rfl (by decide) (by decide)

theorem OpcodeField.unimp1D : OpcodeField.Statement .unimp1D :=
  OpcodeField.of_opcodeOnly _ rfl (by decide) (by decide)

theorem OpcodeField.unimp1E : OpcodeField.Statement .unimp1E :=
  OpcodeField.of_opcodeOnly _ rfl (by decide) (by decide)

theorem OpcodeField.unimp1F : OpcodeField.Statement .unimp1F :=
  OpcodeField.of_opcodeOnly _ rfl (by decide) (by decide)

theorem OpcodeField.unimp20 : OpcodeField.Statement .unimp20 :=
  OpcodeField.of_opcodeOnly _ rfl (by decide) (by decide)

theorem OpcodeField.unimp21 : OpcodeField.Statement .unimp21 :=
  OpcodeField.of_opcodeOnly _ rfl (by decide) (by decide)

theorem OpcodeField.unimp22 : OpcodeField.Statement .unimp22 :=
  OpcodeField.of_opcodeOnly _ rfl (by decide) (by decide)

theorem OpcodeField.unimp23 : OpcodeField.Statement .unimp23 :=
  OpcodeField.of_opcodeOnly _ rfl (by decide) (by decide)

theorem OpcodeField.unimp24 : OpcodeField.Statement .unimp24 :=
  OpcodeField.of_opcodeOnly _ rfl (by decide) (by decide)

theorem OpcodeField.unimp25 : OpcodeField.Statement .unimp25 :=
  OpcodeField.of_opcodeOnly _ rfl (by decide) (by decide)

theorem OpcodeField.unimp26 : OpcodeField.Statement .unimp26 :=
  OpcodeField.of_opcodeOnly _ rfl (by decide) (by decide)

theorem OpcodeField.unimp27 : OpcodeField.Statement .unimp27 :=
  OpcodeField.of_opcodeOnly _ rfl (by decide) (by decide)

theorem OpcodeField.unimp28 : OpcodeField.Statement .unimp28 :=
  OpcodeField.of_opcodeOnly _ rfl (by decide) (by decide)

theorem OpcodeField.unimp29 : OpcodeField.Statement .unimp29 :=
  OpcodeField.of_opcodeOnly _ rfl (by decide) (by decide)

theorem OpcodeField.unimp2A : OpcodeField.Statement .unimp2A :=
  OpcodeField.of_opcodeOnly _ rfl (by decide) (by decide)

theorem OpcodeField.unimp2B : OpcodeField.Statement .unimp2B :=
  OpcodeField.of_opcodeOnly _ rfl (by decide) (by decide)

theorem OpcodeField.unimp2C : OpcodeField.Statement .unimp2C :=
  OpcodeField.of_opcodeOnly _ rfl (by decide) (by decide)

theorem OpcodeField.unimp2D : OpcodeField.Statement .unimp2D :=
  OpcodeField.of_opcodeOnly _ rfl (by decide) (by decide)

theorem OpcodeField.unimp2E : OpcodeField.Statement .unimp2E :=
  OpcodeField.of_opcodeOnly _ rfl (by decide) (by decide)

theorem OpcodeField.unimp2F : OpcodeField.Statement .unimp2F :=
  OpcodeField.of_opcodeOnly _ rfl (by decide) (by decide)

theorem OpcodeField.unimp30 : OpcodeField.Statement .unimp30 :=
  OpcodeField.of_opcodeOnly _ rfl (by decide) (by decide)

theorem OpcodeField.unimp31 : OpcodeField.Statement .unimp31 :=
  OpcodeField.of_opcodeOnly _ rfl (by decide) (by decide)

theorem OpcodeField.unimp32 : OpcodeField.Statement .unimp32 :=
  OpcodeField.of_opcodeOnly _ rfl (by decide) (by decide)

theorem OpcodeField.unimp34 : OpcodeField.Statement .unimp34 :=
  OpcodeField.of_opcodeOnly _ rfl (by decide) (by decide)

theorem OpcodeField.unimp35 : OpcodeField.Statement .unimp35 :=
  OpcodeField.of_opcodeOnly _ rfl (by decide) (by decide)

theorem OpcodeField.unimp36 : OpcodeField.Statement .unimp36 :=
  OpcodeField.of_opcodeOnly _ rfl (by decide) (by decide)

theorem OpcodeField.unimp37 : OpcodeField.Statement .unimp37 :=
  OpcodeField.of_opcodeOnly _ rfl (by decide) (by decide)

theorem OpcodeField.unimp38 : OpcodeField.Statement .unimp38 :=
  OpcodeField.of_opcodeOnly _ rfl (by decide) (by decide)

theorem OpcodeField.unimp39 : OpcodeField.Statement .unimp39 :=
  OpcodeField.of_opcodeOnly _ rfl (by decide) (by decide)

theorem OpcodeField.unimp3A : OpcodeField.Statement .unimp3A :=
  OpcodeField.of_opcodeOnly _ rfl (by decide) (by decide)

theorem OpcodeField.unimp3B : OpcodeField.Statement .unimp3B :=
  OpcodeField.of_opcodeOnly _ rfl (by decide) (by decide)

theorem OpcodeField.unimp3C : OpcodeField.Statement .unimp3C :=
  OpcodeField.of_opcodeOnly _ rfl (by decide) (by decide)

theorem OpcodeField.unimp3D : OpcodeField.Statement .unimp3D :=
  OpcodeField.of_opcodeOnly _ rfl (by decide) (by decide)

theorem OpcodeField.unimp3E : OpcodeField.Statement .unimp3E :=
  OpcodeField.of_opcodeOnly _ rfl (by decide) (by decide)

theorem OpcodeField.unimp3F : OpcodeField.Statement .unimp3F :=
  OpcodeField.of_opcodeOnly _ rfl (by decide) (by decide)

theorem OpcodeField.unimp40 : OpcodeField.Statement .unimp40 :=
  OpcodeField.of_opcodeOnly _ rfl (by decide) (by decide)

theorem OpcodeField.unimp41 : OpcodeField.Statement .unimp41 :=
  OpcodeField.of_opcodeOnly _ rfl (by decide) (by decide)

theorem OpcodeField.unimp42 : OpcodeField.Statement .unimp42 :=
  OpcodeField.of_opcodeOnly _ rfl (by decide) (by decide)

theorem OpcodeField.unimp43 : OpcodeField.Statement .unimp43 :=
  OpcodeField.of_opcodeOnly _ rfl (by decide) (by decide)

theorem OpcodeField.unimp44 : OpcodeField.Statement .unimp44 :=
  OpcodeField.of_opcodeOnly _ rfl (by decide) (by decide)

theorem OpcodeField.unimp45 : OpcodeField.Statement .unimp45 :=
  OpcodeField.of_opcodeOnly _ rfl (by decide) (by decide)

theorem OpcodeField.unimp46 : OpcodeField.Statement .unimp46 :=
  OpcodeField.of_opcodeOnly _ rfl (by decide) (by decide)

theorem OpcodeField.unimp47 : OpcodeField.Statement .unimp47 :=
  OpcodeField.of_opcodeOnly _ rfl (by decide) (by decide)

theorem OpcodeField.unimp48 : OpcodeField.Statement .unimp48 :=
  OpcodeField.of_opcodeOnly _ rfl (by decide) (by decide)

theorem OpcodeField.unimp49 : OpcodeField.Statement .unimp49 :=
  OpcodeField.of_opcodeOnly _ rfl (by decide) (by decide)

theorem OpcodeField.unimp4A : OpcodeField.Statement .unimp4A :=
  OpcodeField.of_opcodeOnly _ rfl (by decide) (by decide)

theorem OpcodeField.unimp4B : OpcodeField.Statement .unimp4B :=
  OpcodeField.of_opcodeOnly _ rfl (by decide) (by decide)

theorem OpcodeField.unimp4C : OpcodeField.Statement .unimp4C :=
  OpcodeField.of_opcodeOnly _ rfl (by decide) (by decide)

theorem OpcodeField.unimp4D : OpcodeField.Statement .unimp4D :=
  OpcodeField.of_opcodeOnly _ rfl (by decide) (by decide)

theorem OpcodeField.unimp4E : OpcodeField.Statement .unimp4E :=
  OpcodeField.of_opcodeOnly _ rfl (by decide) (by decide)

theorem OpcodeField.unimp4F : OpcodeField.Statement .unimp4F :=
  OpcodeField.of_opcodeOnly _ rfl (by decide) (by decide)

theorem OpcodeField.unimp50 : OpcodeField.Statement .unimp50 :=
  OpcodeField.of_opcodeOnly _ rfl (by decide) (by decide)

theorem OpcodeField.unimp51 : OpcodeField.Statement .unimp51 :=
  OpcodeField.of_opcodeOnly _ rfl (by decide) (by decide)

theorem OpcodeField.unimp52 : OpcodeField.Statement .unimp52 :=
  OpcodeField.of_opcodeOnly _ rfl (by decide) (by decide)

theorem OpcodeField.unimp53 : OpcodeField.Statement .unimp53 :=
  OpcodeField.of_opcodeOnly _ rfl (by decide) (by decide)

theorem OpcodeField.unimp54 : OpcodeField.Statement .unimp54 :=
  OpcodeField.of_opcodeOnly _ rfl (by decide) (by decide)

theorem OpcodeField.unimp55 : OpcodeField.Statement .unimp55 :=
  OpcodeField.of_opcodeOnly _ rfl (by decide) (by decide)

theorem OpcodeField.unimp56 : OpcodeField.Statement .unimp56 :=
  OpcodeField.of_opcodeOnly _ rfl (by decide) (by decide)

theorem OpcodeField.unimp57 : OpcodeField.Statement .unimp57 :=
  OpcodeField.of_opcodeOnly _ rfl (by decide) (by decide)

theorem OpcodeField.unimp58 : OpcodeField.Statement .unimp58 :=
  OpcodeField.of_opcodeOnly _ rfl (by decide) (by decide)

theorem OpcodeField.unimp59 : OpcodeField.Statement .unimp59 :=
  OpcodeField.of_opcodeOnly _ rfl (by decide) (by decide)

theorem OpcodeField.unimp5A : OpcodeField.Statement .unimp5A :=
  OpcodeField.of_opcodeOnly _ rfl (by decide) (by decide)

theorem OpcodeField.unimp5B : OpcodeField.Statement .unimp5B :=
  OpcodeField.of_opcodeOnly _ rfl (by decide) (by decide)

theorem OpcodeField.unimp5C : OpcodeField.Statement .unimp5C :=
  OpcodeField.of_opcodeOnly _ rfl (by decide) (by decide)

theorem OpcodeField.unimp5D : OpcodeField.Statement .unimp5D :=
  OpcodeField.of_opcodeOnly _ rfl (by decide) (by decide)

theorem OpcodeField.unimp5E : OpcodeField.Statement .unimp5E :=
  OpcodeField.of_opcodeOnly _ rfl (by decide) (by decide)

theorem OpcodeField.unimp5F : OpcodeField.Statement .unimp5F :=
  OpcodeField.of_opcodeOnly _ rfl (by decide) (by decide)

theorem OpcodeField.unimp60 : OpcodeField.Statement .unimp60 :=
  OpcodeField.of_opcodeOnly _ rfl (by decide) (by decide)

theorem OpcodeField.unimp61 : OpcodeField.Statement .unimp61 :=
  OpcodeField.of_opcodeOnly _ rfl (by decide) (by decide)

theorem OpcodeField.unimp62 : OpcodeField.Statement .unimp62 :=
  OpcodeField.of_opcodeOnly _ rfl (by decide) (by decide)

theorem OpcodeField.unimp63 : OpcodeField.Statement .unimp63 :=
  OpcodeField.of_opcodeOnly _ rfl (by decide) (by decide)

theorem OpcodeField.unimp64 : OpcodeField.Statement .unimp64 :=
  OpcodeField.of_opcodeOnly _ rfl (by decide) (by decide)

theorem OpcodeField.unimp65 : OpcodeField.Statement .unimp65 :=
  OpcodeField.of_opcodeOnly _ rfl (by decide) (by decide)

theorem OpcodeField.unimp66 : OpcodeField.Statement .unimp66 :=
  OpcodeField.of_opcodeOnly _ rfl (by decide) (by decide)

theorem OpcodeField.unimp67 : OpcodeField.Statement .unimp67 :=
  OpcodeField.of_opcodeOnly _ rfl (by decide) (by decide)

theorem OpcodeField.unimp68 : OpcodeField.Statement .unimp68 :=
  OpcodeField.of_opcodeOnly _ rfl (by decide) (by decide)

theorem OpcodeField.unimp69 : OpcodeField.Statement .unimp69 :=
  OpcodeField.of_opcodeOnly _ rfl (by decide) (by decide)

theorem OpcodeField.unimp6A : OpcodeField.Statement .unimp6A :=
  OpcodeField.of_opcodeOnly _ rfl (by decide) (by decide)

theorem OpcodeField.unimp6B : OpcodeField.Statement .unimp6B :=
  OpcodeField.of_opcodeOnly _ rfl (by decide) (by decide)

theorem OpcodeField.unimp6C : OpcodeField.Statement .unimp6C :=
  OpcodeField.of_opcodeOnly _ rfl (by decide) (by decide)

theorem OpcodeField.unimp6D : OpcodeField.Statement .unimp6D :=
  OpcodeField.of_opcodeOnly _ rfl (by decide) (by decide)

theorem OpcodeField.unimp6E : OpcodeField.Statement .unimp6E :=
  OpcodeField.of_opcodeOnly _ rfl (by decide) (by decide)

theorem OpcodeField.unimp6F : OpcodeField.Statement .unimp6F :=
  OpcodeField.of_opcodeOnly _ rfl (by decide) (by decide)

theorem OpcodeField.unimp70 : OpcodeField.Statement .unimp70 :=
  OpcodeField.of_opcodeOnly _ rfl (by decide) (by decide)

theorem OpcodeField.unimp71 : OpcodeField.Statement .unimp71 :=
  OpcodeField.of_opcodeOnly _ rfl (by decide) (by decide)

theorem OpcodeField.unimp72 : OpcodeField.Statement .unimp72 :=
  OpcodeField.of_opcodeOnly _ rfl (by decide) (by decide)

theorem OpcodeField.unimp73 : OpcodeField.Statement .unimp73 :=
  OpcodeField.of_opcodeOnly _ rfl (by decide) (by decide)

theorem OpcodeField.unimp74 : OpcodeField.Statement .unimp74 :=
  OpcodeField.of_opcodeOnly _ rfl (by decide) (by decide)

theorem OpcodeField.unimp75 : OpcodeField.Statement .unimp75 :=
  OpcodeField.of_opcodeOnly _ rfl (by decide) (by decide)

theorem OpcodeField.unimp76 : OpcodeField.Statement .unimp76 :=
  OpcodeField.of_opcodeOnly _ rfl (by decide) (by decide)

theorem OpcodeField.unimp77 : OpcodeField.Statement .unimp77 :=
  OpcodeField.of_opcodeOnly _ rfl (by decide) (by decide)

theorem OpcodeField.unimp78 : OpcodeField.Statement .unimp78 :=
  OpcodeField.of_opcodeOnly _ rfl (by decide) (by decide)

theorem OpcodeField.unimp79 : OpcodeField.Statement .unimp79 :=
  OpcodeField.of_opcodeOnly _ rfl (by decide) (by decide)

theorem OpcodeField.unimp7A : OpcodeField.Statement .unimp7A :=
  OpcodeField.of_opcodeOnly _ rfl (by decide) (by decide)

theorem OpcodeField.unimp7B : OpcodeField.Statement .unimp7B :=
  OpcodeField.of_opcodeOnly _ rfl (by decide) (by decide)

theorem OpcodeField.unimp7C : OpcodeField.Statement .unimp7C :=
  OpcodeField.of_opcodeOnly _ rfl (by decide) (by decide)

theorem OpcodeField.unimp7D : OpcodeField.Statement .unimp7D :=
  OpcodeField.of_opcodeOnly _ rfl (by decide) (by decide)

theorem OpcodeField.unimp7E : OpcodeField.Statement .unimp7E :=
  OpcodeField.of_opcodeOnly _ rfl (by decide) (by decide)

theorem OpcodeField.unimp7F : OpcodeField.Statement .unimp7F :=
  OpcodeField.of_opcodeOnly _ rfl (by decide) (by decide)

end Sys2Proof.Laws
end

