-- ==== Sys2Proof/Laws/Step.lean ====
section
/-! SUPPORT. What exec and a step can do, said once: every invariant and every whole-machine rule is read off these. -/

namespace Sys2Proof.Machine

/-! ### exec -/

/-- The two effects an instruction can have: it writes one register through the write port, or it emits one diagnostic;
or it has none (spec/41_decode_dispatch.md rule R130). -/
inductive Effect (s : State) : State → Prop where
  | nothing : Effect s s
  | register (i : RegIdx) (v : Word) : Effect s (s.writeReg i v)
  | diagnostic (op : Opcode) : Effect s (s.emitDiag op)

/-- Every instruction answers a next state, by one of the effects. -/
theorem exec_effect (i : Instr) (s : State) : ∃ t, exec i s = .next t ∧ Effect s t := by
  cases i with
  | null => exact ⟨_, rfl, .nothing⟩
  | addi rd rs1 imm => exact ⟨_, rfl, .register rd _⟩
  | add rd rs1 rs2 => exact ⟨_, rfl, .register rd _⟩
  | _ => exact ⟨_, rfl, .diagnostic _⟩

/-- An effect leaves everything but the registers and the diagnostic stream as it was. -/
theorem Effect.keeps {s t : State} (h : Effect s t) :
    t.pc = s.pc ∧ t.cycleBudget = s.cycleBudget ∧ t.tickCount = s.tickCount ∧ t.mode = s.mode ∧ t.mem = s.mem ∧
      t.replies = s.replies ∧ t.hostQueue = s.hostQueue ∧ t.wasReset = s.wasReset := by
  cases h <;> simp

/-- An effect leaves the storage of x0 as it was. -/
theorem Effect.keeps_storage_zero {s t : State} (h : Effect s t) : t.regs[0] = s.regs[0] := by
  cases h with
  | nothing => rfl
  | register i v => exact s.writeReg_storage_zero i v
  | diagnostic op => rfl

/-! ### The run loop -/

/-- The guard stops exactly when the program counter has reached the ceiling (spec/44_run_loop.md rule R183). -/
theorem State.guardStops_iff (s : State) : s.guardStops = true ↔ s.cycleBudget ≤ s.pc := by
  simp [State.guardStops]

/-- The guard lets the run go on exactly when the program counter lies below the ceiling. -/
theorem State.guardStops_false_iff (s : State) : s.guardStops = false ↔ s.pc < s.cycleBudget := by
  simp [State.guardStops]

/-- The early exit fires exactly when the ceiling lies below x2 (rule R184). -/
theorem State.earlyExit_iff (s : State) :
    s.earlyExit = true ↔ s.cycleBudget < (s.readReg 2#5).setWidth 64 := by
  simp [State.earlyExit]

/-- One iteration always completes: the effect of the fetched word on the advanced state, then the end of the
iteration (spec/44_run_loop.md rule R182). -/
theorem runIteration_next (s : State) :
    ∃ t, executeWord s.fetchWord s.advancePc = .next t ∧ Effect s.advancePc t ∧
      runIteration s = .next t.finishIteration := by
  obtain ⟨t, ht, he⟩ := exec_effect (decodeWord s.fetchWord) s.advancePc
  exact ⟨t, ht, he, by simp only [runIteration, executeWord, ht]⟩

/-- A step of a run: the guard ends the run, or one iteration (rules R183 and R185). -/
theorem runStep_cases {s s' : State} (h : runStep s = .next s') :
    (s.guardStops = true ∧ s' = s.halt) ∨
      (s.guardStops = false ∧ ∃ t, executeWord s.fetchWord s.advancePc = .next t ∧ Effect s.advancePc t ∧
        s' = t.finishIteration) := by
  unfold runStep at h
  by_cases hg : s.guardStops = true
  · rw [if_pos hg] at h
    cases h
    exact .inl ⟨hg, rfl⟩
  · rw [if_neg hg] at h
    obtain ⟨t, ht, he, hr⟩ := runIteration_next s
    rw [hr] at h
    cases h
    exact .inr ⟨by simpa using hg, t, ht, he, rfl⟩

/-- A step of a run always answers a next state. -/
theorem runStep_next (s : State) : ∃ t, runStep s = .next t := by
  unfold runStep
  split
  · exact ⟨_, rfl⟩
  · obtain ⟨t, -, -, hr⟩ := runIteration_next s
    exact ⟨_, hr⟩

/-! ### The host's moves -/

/-- What a move of the host answers (spec/70_reset_and_hazards.md rule R259). -/
theorem performMove_cases {m : HostMove} {s s' : State} (h : performMove m s = .next s') :
    (∃ r, m = .reset r ∧ s' = s.applyReset r) ∨
      (m = .fetch ∧ s' = s.reply (.word s.fetchWord)) ∨
      (∃ w, m = .execute w ∧ executeWord w s = .next s' ∧ Effect s s') ∨
      (∃ l, m = .run l ∧ runStep (s.enterRun l) = .next s') ∨
      (m = .dump ∧ s' = s.reply (.dump s.dumpLines)) ∨
      (∃ a b, m = .writeByte a b ∧ s' = s.writeByte a b) := by
  cases m with
  | reset r => cases h; exact .inl ⟨r, rfl, rfl⟩
  | fetch => cases h; exact .inr (.inl ⟨rfl, rfl⟩)
  | execute w =>
    obtain ⟨t, ht, he⟩ := exec_effect (decodeWord w) s
    have : executeWord w s = .next s' := h
    rw [executeWord, ht] at this
    cases this
    exact .inr (.inr (.inl ⟨w, rfl, ht, he⟩))
  | run l => exact .inr (.inr (.inr (.inl ⟨l, rfl, h⟩)))
  | dump => cases h; exact .inr (.inr (.inr (.inr (.inl ⟨rfl, rfl⟩))))
  | writeByte a b => cases h; exact .inr (.inr (.inr (.inr (.inr ⟨a, b, rfl, rfl⟩))))

/-- Every move of the host answers a next state. -/
theorem performMove_next (m : HostMove) (s : State) : ∃ t, performMove m s = .next t := by
  cases m with
  | execute w => exact (exec_effect (decodeWord w) s).imp fun _ h => h.1
  | run l => exact runStep_next _
  | _ => exact ⟨_, rfl⟩

/-! ### A step -/

/-- A run is in progress exactly in RUNNING after a first reset. -/
theorem State.runInProgress_iff (s : State) : s.runInProgress = true ↔ s.wasReset = true ∧ s.mode = .running := by
  simp [State.runInProgress]

/-- In HALTED no run is in progress. -/
theorem State.runInProgress_of_halted {s : State} (h : s.mode = .halted) : s.runInProgress = false := by
  simp [State.runInProgress, h]

/-- Before the first reset no run is in progress, whatever `mode` holds (spec/10_state.md rule R38). -/
theorem State.runInProgress_of_not_reset {s : State} (h : s.wasReset = false) : s.runInProgress = false := by
  simp [State.runInProgress, h]

/-- With a run in progress a step is a step of the run. -/
theorem step_running {s : State} (h : s.runInProgress = true) : step s = runStep s := by
  simp only [step, h, if_true]

/-- With no run in progress a step is the host's. -/
theorem step_host {s : State} (h : s.runInProgress = false) : step s = hostStep s := by
  simp [step, h]

/-- After a command that the core accepts a step is what the command does. -/
theorem step_command {s : State} {m : HostMove} {rest : List HostMove} (hm : s.mode = .halted) (hr : s.wasReset = true)
    (hq : s.hostQueue = m :: rest) : step s = performMove m { s with hostQueue := rest } := by
  rw [step_host (State.runInProgress_of_halted hm)]
  simp [hostStep, hq, hr]

/-- Everything a step can do: a step of a run, a wait for the host, or a move of the host. -/
theorem step_cases {s s' : State} (h : step s = .next s') :
    (s.runInProgress = true ∧ runStep s = .next s') ∨
      (s.runInProgress = false ∧ s.hostQueue = [] ∧ s' = s) ∨
      (∃ m rest, s.runInProgress = false ∧ s.hostQueue = m :: rest ∧ (s.wasReset || m.beforeResetOk) = true ∧
        performMove m { s with hostQueue := rest } = .next s') := by
  unfold step at h
  split at h
  · exact .inl ⟨‹_›, h⟩
  · rename_i hn
    have hm : s.runInProgress = false := by simpa using hn
    unfold hostStep at h
    split at h
    · cases h
      exact .inr (.inl ⟨hm, ‹_›, rfl⟩)
    · rename_i m rest hq
      split at h
      · exact .inr (.inr ⟨m, rest, hm, hq, ‹_›, h⟩)
      · cases h

end Sys2Proof.Machine
end

