-- ==== Sys2Proof/Tests/Slice0.lean ====
section
/-! SUPPORT. Tests of the model, each of one step or one word, with expected results from spec/95_test_vectors.md or by
hand from the rule cited; and for every statement with hypotheses a witness that they can be met together. -/

namespace Sys2Proof.Tests

open Sys2Proof.Machine

/-! ### Helpers -/

/-- A RUNNING state at `pc = 0` with `w` in memory there and x2 = 0. -/
def running (w : Word) (budget : Addr) : State :=
  { State.reset with
    mode := .running
    cycleBudget := budget
    mem := [(0, w.extractLsb' 0 8), (1, w.extractLsb' 8 8), (2, w.extractLsb' 16 8), (3, w.extractLsb' 24 8)] }

/-- A HALTED state, after a reset, with moves of the host pending. -/
def halted (moves : List HostMove) : State := { State.reset with hostQueue := moves }

/-- A state that no reset has preceded, with `mode` RUNNING, an instruction at `pc` and a ceiling above it. -/
def unreset (moves : List HostMove) : State := { running 0x00100513#32 8 with wasReset := false, hostQueue := moves }

/-- The state an outcome goes on with. -/
def next (o : Host.Outcome State Fault Refusal) : Option State :=
  match o with
  | .next s => some s
  | .fault _ => none
  | .refused _ => none

/-- A register after the word is executed on the state. -/
def regAfter (w : Word) (s : State) (i : RegIdx) : Option Word := (next (executeWord w s)).map (·.readReg i)

/-! ### Well-formedness: an ill-formed term for each check (rules R80, R88) -/

theorem test_register_32_refused : (Asm.add 32 0 0).wellFormed = false := by decide

theorem test_source_register_refused : (Asm.addi 1 32 0).wellFormed = false := by decide

theorem test_second_source_register_refused : (Asm.add 1 1 99).wellFormed = false := by decide

theorem test_move_register_refused : (Asm.mv 1 32).wellFormed = false := by decide

theorem test_immediate_2048_refused : (Asm.addi 1 1 2048).wellFormed = false := by decide

theorem test_immediate_below_refused : (Asm.li 1 (-2049)).wellFormed = false := by decide

theorem test_word_of_33_bits_refused : (Asm.word 0x100000000).wellFormed = false := by decide

theorem test_boundary_line_accepted : (Asm.addi 31 31 (-2048)).wellFormed = true := by decide

/-! ### Decoding: words written out from the encodings of spec/30_encoding.md; the 125 UNIMP rows with every bit not
examined set -/

/-- 0x00100513 is the one word the source gives in bits (95, S6). -/
theorem test_decode_addi : decodeWord 0b00000000000100000000010100010011#32 = .addi 10#5 0#5 1#12 := by decide

/-- 0x006283B3 (95, S4): rs2 00110, rs1 00101, rd 00111. -/
theorem test_decode_add : decodeWord 0b00000000011000101000001110110011#32 = .add 7#5 5#5 6#5 := by decide

theorem test_decode_null : decodeWord 0b11111111111111111111111110000000#32 = .null := by decide

theorem test_decode_unimp_from_01 :
    [0xFFFFFF81#32, 0xFFFFFF82#32, 0xFFFFFF83#32, 0xFFFFFF84#32, 0xFFFFFF85#32, 0xFFFFFF86#32,
      0xFFFFFF87#32, 0xFFFFFF88#32, 0xFFFFFF89#32, 0xFFFFFF8A#32, 0xFFFFFF8B#32, 0xFFFFFF8C#32,
      0xFFFFFF8D#32, 0xFFFFFF8E#32, 0xFFFFFF8F#32, 0xFFFFFF90#32].map decodeWord =
      [.unimp01, .unimp02, .unimp03, .unimp04, .unimp05, .unimp06,
       .unimp07, .unimp08, .unimp09, .unimp0A, .unimp0B, .unimp0C,
       .unimp0D, .unimp0E, .unimp0F, .unimp10] := by
  decide

theorem test_decode_unimp_from_11 :
    [0xFFFFFF91#32, 0xFFFFFF92#32, 0xFFFFFF94#32, 0xFFFFFF95#32, 0xFFFFFF96#32, 0xFFFFFF97#32,
      0xFFFFFF98#32, 0xFFFFFF99#32, 0xFFFFFF9A#32, 0xFFFFFF9B#32, 0xFFFFFF9C#32, 0xFFFFFF9D#32,
      0xFFFFFF9E#32, 0xFFFFFF9F#32, 0xFFFFFFA0#32, 0xFFFFFFA1#32].map decodeWord =
      [.unimp11, .unimp12, .unimp14, .unimp15, .unimp16, .unimp17,
       .unimp18, .unimp19, .unimp1A, .unimp1B, .unimp1C, .unimp1D,
       .unimp1E, .unimp1F, .unimp20, .unimp21] := by
  decide

theorem test_decode_unimp_from_22 :
    [0xFFFFFFA2#32, 0xFFFFFFA3#32, 0xFFFFFFA4#32, 0xFFFFFFA5#32, 0xFFFFFFA6#32, 0xFFFFFFA7#32,
      0xFFFFFFA8#32, 0xFFFFFFA9#32, 0xFFFFFFAA#32, 0xFFFFFFAB#32, 0xFFFFFFAC#32, 0xFFFFFFAD#32,
      0xFFFFFFAE#32, 0xFFFFFFAF#32, 0xFFFFFFB0#32, 0xFFFFFFB1#32].map decodeWord =
      [.unimp22, .unimp23, .unimp24, .unimp25, .unimp26, .unimp27,
       .unimp28, .unimp29, .unimp2A, .unimp2B, .unimp2C, .unimp2D,
       .unimp2E, .unimp2F, .unimp30, .unimp31] := by
  decide

theorem test_decode_unimp_from_32 :
    [0xFFFFFFB2#32, 0xFFFFFFB4#32, 0xFFFFFFB5#32, 0xFFFFFFB6#32, 0xFFFFFFB7#32, 0xFFFFFFB8#32,
      0xFFFFFFB9#32, 0xFFFFFFBA#32, 0xFFFFFFBB#32, 0xFFFFFFBC#32, 0xFFFFFFBD#32, 0xFFFFFFBE#32,
      0xFFFFFFBF#32, 0xFFFFFFC0#32, 0xFFFFFFC1#32, 0xFFFFFFC2#32].map decodeWord =
      [.unimp32, .unimp34, .unimp35, .unimp36, .unimp37, .unimp38,
       .unimp39, .unimp3A, .unimp3B, .unimp3C, .unimp3D, .unimp3E,
       .unimp3F, .unimp40, .unimp41, .unimp42] := by
  decide

theorem test_decode_unimp_from_43 :
    [0xFFFFFFC3#32, 0xFFFFFFC4#32, 0xFFFFFFC5#32, 0xFFFFFFC6#32, 0xFFFFFFC7#32, 0xFFFFFFC8#32,
      0xFFFFFFC9#32, 0xFFFFFFCA#32, 0xFFFFFFCB#32, 0xFFFFFFCC#32, 0xFFFFFFCD#32, 0xFFFFFFCE#32,
      0xFFFFFFCF#32, 0xFFFFFFD0#32, 0xFFFFFFD1#32, 0xFFFFFFD2#32].map decodeWord =
      [.unimp43, .unimp44, .unimp45, .unimp46, .unimp47, .unimp48,
       .unimp49, .unimp4A, .unimp4B, .unimp4C, .unimp4D, .unimp4E,
       .unimp4F, .unimp50, .unimp51, .unimp52] := by
  decide

theorem test_decode_unimp_from_53 :
    [0xFFFFFFD3#32, 0xFFFFFFD4#32, 0xFFFFFFD5#32, 0xFFFFFFD6#32, 0xFFFFFFD7#32, 0xFFFFFFD8#32,
      0xFFFFFFD9#32, 0xFFFFFFDA#32, 0xFFFFFFDB#32, 0xFFFFFFDC#32, 0xFFFFFFDD#32, 0xFFFFFFDE#32,
      0xFFFFFFDF#32, 0xFFFFFFE0#32, 0xFFFFFFE1#32, 0xFFFFFFE2#32].map decodeWord =
      [.unimp53, .unimp54, .unimp55, .unimp56, .unimp57, .unimp58,
       .unimp59, .unimp5A, .unimp5B, .unimp5C, .unimp5D, .unimp5E,
       .unimp5F, .unimp60, .unimp61, .unimp62] := by
  decide

theorem test_decode_unimp_from_63 :
    [0xFFFFFFE3#32, 0xFFFFFFE4#32, 0xFFFFFFE5#32, 0xFFFFFFE6#32, 0xFFFFFFE7#32, 0xFFFFFFE8#32,
      0xFFFFFFE9#32, 0xFFFFFFEA#32, 0xFFFFFFEB#32, 0xFFFFFFEC#32, 0xFFFFFFED#32, 0xFFFFFFEE#32,
      0xFFFFFFEF#32, 0xFFFFFFF0#32, 0xFFFFFFF1#32, 0xFFFFFFF2#32].map decodeWord =
      [.unimp63, .unimp64, .unimp65, .unimp66, .unimp67, .unimp68,
       .unimp69, .unimp6A, .unimp6B, .unimp6C, .unimp6D, .unimp6E,
       .unimp6F, .unimp70, .unimp71, .unimp72] := by
  decide

theorem test_decode_unimp_from_73 :
    [0xFFFFFFF3#32, 0xFFFFFFF4#32, 0xFFFFFFF5#32, 0xFFFFFFF6#32, 0xFFFFFFF7#32, 0xFFFFFFF8#32,
      0xFFFFFFF9#32, 0xFFFFFFFA#32, 0xFFFFFFFB#32, 0xFFFFFFFC#32, 0xFFFFFFFD#32, 0xFFFFFFFE#32,
      0xFFFFFFFF#32].map decodeWord =
      [.unimp73, .unimp74, .unimp75, .unimp76, .unimp77, .unimp78,
       .unimp79, .unimp7A, .unimp7B, .unimp7C, .unimp7D, .unimp7E,
       .unimp7F] := by
  decide

/-- Fewer than four bytes are no instruction (rule R80). -/
theorem test_decode_truncated : decode [0x13#8, 0x05#8, 0x10#8] = .error (.truncated 3) := by rfl

theorem test_decode_hands_back_the_rest :
    decode [0x13#8, 0x05#8, 0x10#8, 0x00#8, 0xAA#8] = .ok (.addi 10#5 0#5 1#12, [0xAA#8]) := by rfl

theorem test_decodeTableWord_add : decodeTableWord 32 0x40628533 = some (.add 10#5 5#5 6#5) := by decide

/-! ### Instructions (95, part 2) -/

/-- S3: 10 + (-5) = 5; the zero-extended reading would give 0x00001005. -/
theorem test_addi_minus_five : regAfter 0xFFB30293#32 (State.reset.writeReg 6#5 10#32) 5#5 = some 0x00000005#32 := by
  decide

/-- The standard SLLI x10, x5, 3 adds 3. -/
theorem test_addi_ignores_bits_14_12 :
    regAfter 0x00329513#32 (State.reset.writeReg 5#5 0x0000F0F0#32) 10#5 = some 0x0000F0F3#32 := by decide

/-- The standard SUB x10, x5, x6 adds. -/
theorem test_add_ignores_bits_31_25 :
    regAfter 0x40628533#32 ((State.reset.writeReg 5#5 100#32).writeReg 6#5 58#32) 10#5 = some 0x0000009E#32 := by decide

/-- ADD x31, x31, x31 of 0x80000000: the carry is lost. -/
theorem test_add_wraps :
    regAfter 0x01FF8FB3#32 (State.reset.writeReg 31#5 0x80000000#32) 31#5 = some 0x00000000#32 := by decide

/-- ADD x4, x1, x2 after reset(77): 32 + 77 = 109. -/
theorem test_add_of_reset_values : regAfter 0x00208233#32 (State.reset.applyReset 77#32) 4#5 = some 0x0000006D#32 := by
  decide

/-- S2: ADDI x0, x5, 1 leaves x0 at 0. -/
theorem test_addi_to_x0 : regAfter 0x00128013#32 (State.reset.writeReg 5#5 7#32) 0#5 = some 0#32 := by decide

theorem test_null_emits_nothing : (next (executeWord 0xFFFFFF80#32 State.reset)).map (·.diag) = some [] := by decide

theorem test_unimp_emits_its_opcode :
    (next (executeWord 0xFFFFFFFF#32 { State.reset with diag := [0x73#7] })).map (·.diag) = some [0x73#7, 0x7F#7] := by
  decide

/-- The standard LUI x5, 0x12345 writes no register. -/
theorem test_unimp_writes_no_register : regAfter 0x123452B7#32 (State.reset.writeReg 5#5 7#32) 5#5 = some 7#32 := by
  decide

/-! ### Reset, run loop and host commands (95, S1, S7, part 2 "Run loop" and "Reset and dump") -/

theorem test_reset_x1 : State.reset.readReg 1#5 = 0x00000020#32 := by decide

theorem test_reset_keeps_memory_and_diag :
    ((running 0x13#32 8).applyReset 9#32).mem.length = 4 ∧
      ({ State.reset with diag := [1#7] }.applyReset 9#32).diag = [1#7] := by decide

/-- run(4) after reset(5): one iteration, early exit 4 < 5, and the tick is counted. -/
theorem test_early_exit_is_counted :
    (next (step { running 0x00128293#32 0 with regs := RegFile.reset 5#32, mode := .halted, hostQueue := [.run 4#64] })).map
      (fun t => (t.mode, t.tickCount, t.pc, t.readReg 5#5)) = some (.halted, 1#64, 4#64, 1#32) := by decide

/-- run(5) after reset(5): the early exit needs 5 < 5, so the run goes on. -/
theorem test_early_exit_is_strict :
    (next (step { running 0x00128293#32 5 with regs := RegFile.reset 5#32 })).map (·.mode) = some .running := by decide

/-- P5: the comparison is unsigned, so x2 = 0xFFFFFFFF ends the run under the ceiling 20 (ADDI x2, x0, -1). -/
theorem test_early_exit_is_unsigned : (next (step (running 0xFFF00113#32 20))).map (·.mode) = some .halted := by decide

/-- run(0) after reset(0): nothing executes, the entry actions happen. -/
theorem test_run_zero :
    (next (step { halted [.run 0#64] with tickCount := 7#64 })).map (fun t => (t.mode, t.tickCount, t.pc)) =
      some (.halted, 0#64, 0#64) := by decide

/-- P6: a host `execute` moves x5 and nothing of the run loop. -/
theorem test_execute_command :
    (next (step (halted [.execute 0x00128293#32]))).map (fun t => (t.readReg 5#5, t.pc, t.tickCount)) =
      some (1#32, 0#64, 0#64) := by decide

theorem test_fetch_command :
    (next (step { running 0x00100513#32 0 with mode := .halted, hostQueue := [.fetch] })).map (·.replies) =
      some [.word 0x00100513#32] := by decide

/-- tickCount 2: one line, x0 to x3. -/
theorem test_dump_one_line :
    (next (step { halted [.dump] with tickCount := 2#64 })).map (·.replies) =
      some [.dump [[(0, 0#32), (1, 0x20#32), (2, 0#32), (3, 0#32)]]] := by decide

theorem test_dump_clamped : ({ State.reset with tickCount := 256#64 } : State).dumpLines.length = 8 := by decide

theorem test_write_then_read :
    (State.reset.writeByte 0xFFFFFFFFFFFFFFFF#64 0xAB#8).readByte 0xFFFFFFFFFFFFFFFF#64 = 0xAB#8 := by decide

/-- A placed word is the first instruction after reset: ADDI x10, x0, 1. -/
theorem test_withFetchWord_runs :
    (next (step (State.reset.withFetchWord 32 0x00100513))).map (fun t => (t.readReg 10#5, t.pc, t.tickCount)) =
      some (1#32, 4#64, 1#64) := by decide

/-- R38: before the first reset nothing runs, whatever `mode` holds; a `run` is refused and `reset` is accepted. -/
theorem test_unreset_runs_nothing : (next (step (unreset []))).map (fun t => (t.pc, t.tickCount)) = some (0#64, 0#64) ∧
    step (unreset [.run 8#64]) = .refused .beforeFirstReset := ⟨by decide, rfl⟩

theorem test_unreset_accepts_reset :
    (next (step (unreset [.reset 9#32]))).map (fun t => (t.mode, t.readReg 2#5)) = some (.halted, 9#32) := by decide

theorem test_withFetchWord_unreset :
    (next (step ((unreset []).withFetchWord 32 0x00200513))).map (·.readReg 10#5) = some 2#32 := by decide

theorem test_withFetchWord_running :
    (next (step ((running 0x00000000#32 0).withFetchWord 32 0x00100513))).map (·.readReg 10#5) = some 1#32 := by decide

/-! ### Witnesses: the hypotheses of the statements can be met -/

theorem witness_DecodeOfEncodeIsIdentity : (Instr.addi 31#5 31#5 0x800#12).wellFormed = true := by decide

theorem witness_ImmediateIsSignExtended : opcodeOf 0x80030293#32 = 0x13#7 := by decide

theorem witness_AssemblerLinesEncodeByFormula :
    (Asm.addi 31 0 (-2048)).wellFormed = true ∧ (Asm.add 31 31 31).wellFormed = true ∧
      (Asm.word 0xFFFFFFFF).wellFormed = true ∧ (Asm.mv 31 0).wellFormed = true ∧ (Asm.li 0 2047).wellFormed = true := by
  decide

theorem witness_FetchIsLittleEndian : (running 0x00100513#32 4).readBytes 0#64 4 = [0x13#8, 0x05#8, 0x10#8, 0x00#8] := by
  decide

theorem witness_FetchCommandChangesNothing : (halted [.fetch, .fetch, .dump]).accepts .fetch [.fetch, .dump] :=
  ⟨rfl, rfl, rfl⟩

theorem witness_PlacedWordIsFetched : (4#64 : Addr) ≠ State.reset.pc ∧ (4#64 : Addr) ≠ State.reset.pc + 1#64 ∧
    (4#64 : Addr) ≠ State.reset.pc + 2#64 ∧ (4#64 : Addr) ≠ State.reset.pc + 3#64 := by decide

/-- One state for each side of the statement: a step of a run, and a host's store. -/
theorem witness_OnlyTheHostChangesMemory :
    (∃ t, step (running 0x13#32 8) = .next t) ∧ ∃ t, step (halted [.writeByte 0#64 1#8]) = .next t :=
  ⟨⟨_, rfl⟩, ⟨_, rfl⟩⟩

theorem witness_AddiCompletes : opcodeOf 0xFFFFFF93#32 = 0x13#7 ∧
    (State.reset.writeReg 6#5 0x0000000A#32).readReg 6#5 = 0x0000000A#32 := by decide

theorem witness_AddCompletes : opcodeOf 0xFFFFFFB3#32 = 0x33#7 ∧
    ((State.reset.writeReg 5#5 7#32).writeReg 6#5 35#32).readReg 5#5 = 0x00000007#32 ∧
    ((State.reset.writeReg 5#5 7#32).writeReg 6#5 35#32).readReg 6#5 = 0x00000023#32 := by decide

theorem witness_iterates (w : Word) : (running w 1).iterates := ⟨rfl, by simp [running, State.reset, Config.resetPc]⟩

theorem witness_NullCompletes :
    (running 0xFFFFFF80#32 1).iterates ∧ opcodeOf (running 0xFFFFFF80#32 1).fetchWord = 0x00#7 :=
  ⟨witness_iterates _, by decide⟩

theorem witness_UnimplementedCompletes :
    Opcode.unimplemented (opcodeOf 0x00000001#32) ∧ Opcode.unimplemented Instr.unimp7F.opcode ∧
      (running 0xFFFFFFFF#32 1).iterates ∧ Opcode.unimplemented (opcodeOf (running 0xFFFFFFFF#32 1).fetchWord) :=
  ⟨by unfold Opcode.unimplemented; decide, by unfold Opcode.unimplemented; decide, witness_iterates _,
    by unfold Opcode.unimplemented; decide⟩

theorem witness_ComputingInstructionsFrame :
    (∃ rs1 imm, (Instr.addi 31#5 1#5 5#12) = .addi 31#5 rs1 imm) ∧ (∃ rs1 rs2, (Instr.add 31#5 1#5 2#5) = .add 31#5 rs1 rs2) ∧
      (∃ t, exec (.addi 31#5 1#5 5#12) State.reset = .next t) ∧ ∃ t, exec (.add 31#5 1#5 2#5) State.reset = .next t :=
  ⟨⟨_, _, rfl⟩, ⟨_, _, rfl⟩, ⟨_, rfl⟩, ⟨_, rfl⟩⟩

theorem witness_NoOpClassesFrame :
    (Instr.null.opcode ≠ 0x13#7 ∧ Instr.null.opcode ≠ 0x33#7 ∧ ∃ t, exec .null State.reset = .next t) ∧
      Instr.unimp12.opcode ≠ 0x13#7 ∧ Instr.unimp12.opcode ≠ 0x33#7 ∧ ∃ t, exec .unimp12 State.reset = .next t :=
  ⟨⟨by decide, by decide, ⟨_, rfl⟩⟩, by decide, by decide, ⟨_, rfl⟩⟩

/-- Two states with equal registers that differ in the program counter and in memory. -/
theorem witness_ExecuteTouchesRegistersOnly :
    (∀ j, ({ running 0x13#32 1 with pc := 8#64 } : State).readReg j = State.reset.readReg j) ∧
      (∃ t, executeWord 0x00100513#32 State.reset = .next t) ∧ (running 0x13#32 1).iterates :=
  ⟨fun _ => rfl, ⟨_, rfl⟩, witness_iterates _⟩

theorem witness_nonzero_registers : (31#5 : RegIdx) ≠ 0#5 ∧ (1#5 : RegIdx) ≠ 0#5 := by decide

/-- One word for each clause: a write to x31, and a computing word with `rd = 0` of each opcode. -/
theorem witness_AtMostOneRegisterIsWritten :
    (∃ t, executeWord 0x01FF8FB3#32 State.reset = .next t) ∧ (1#5 : RegIdx) ≠ rdOf 0x01FF8FB3#32 ∧
      opcodeOf 0x00128013#32 = 0x13#7 ∧ rdOf 0x00128013#32 = 0#5 ∧
      opcodeOf 0x00628033#32 = 0x33#7 ∧ rdOf 0x00628033#32 = 0#5 :=
  ⟨⟨_, rfl⟩, by decide, by decide, by decide, by decide, by decide⟩

theorem witness_StepRunsTheDecodedInstruction :
    (running 0x00100513#32 1).iterates ∧
      decode ((running 0x00100513#32 1).readBytes (running 0x00100513#32 1).pc 4) = .ok (.addi 10#5 0#5 1#12, []) ∧
      (Instr.addi 10#5 0#5 1#12).wellFormed = true :=
  ⟨witness_iterates _, by rfl, by decide⟩

/-- The guard's boundary: `pc = cycleBudget`. -/
theorem witness_GuardEndsTheRun : (running 0x13#32 0).runInProgress = true ∧
    (running 0x13#32 0).cycleBudget ≤ (running 0x13#32 0).pc := by decide

theorem witness_RunEntryActions : (halted [.run 0#64]).accepts (.run 0#64) [] ∧ (0#64 : Addr) ≤ (halted [.run 0#64]).pc :=
  ⟨⟨rfl, rfl, rfl⟩, by decide⟩

/-- P2: reset(1024), run(12), ADDI x5, x0, 7 first. -/
theorem witness_SmallLimitHaltsAfterOneInstruction :
    let s : State :=
      { running 0x00700293#32 0 with regs := RegFile.reset 1024#32, mode := .halted, hostQueue := [.run 12#64] }
    s.accepts (.run 12#64) [] ∧ s.pc < 12#64 ∧ 12#64 < (s.readReg 2#5).setWidth 64 ∧ rdOf s.fetchWord ≠ 2#5 :=
  ⟨⟨rfl, rfl, rfl⟩, by decide, by decide, by decide⟩

/-- The largest ceiling under which a run ends, and a small one. -/
theorem witness_RunEndsAfterMinOfGuardAndEarlyExit :
    (running 0x13#32 lastEndingLimit).runInProgress = true ∧ (running 0x13#32 lastEndingLimit).pc.toNat % 4 = 0 ∧
      (running 0x13#32 lastEndingLimit).cycleBudget ≤ lastEndingLimit ∧ (running 0x13#32 9).cycleBudget ≤ lastEndingLimit := by
  decide

/-- The smallest ceiling above the last one under which a run ends. -/
theorem witness_RunNeverEndsAboveTheLastLimit : (running 0x13#32 0xFFFFFFFFFFFFFFFD#64).RunsForever :=
  ⟨by decide, by decide, by decide⟩

theorem witness_EndlessRunIsKeptByEveryStep : (running 0x73#32 0xFFFFFFFFFFFFFFFF#64).RunsForever :=
  ⟨by decide, by decide, by decide⟩

/-- An iteration, a run that the guard halts, and a `run` command that the host issues. -/
theorem witness_StartOfRunIsRecoverable :
    (∃ t, step (running 0x13#32 8) = .next t) ∧ (∃ t, step (running 0x13#32 0) = .next t) ∧
      (halted [.run 0#64]).accepts (.run 0#64) [] ∧ ∃ t, step (halted [.run 0#64]) = .next t :=
  ⟨⟨_, rfl⟩, ⟨_, rfl⟩, ⟨rfl, rfl, rfl⟩, ⟨_, rfl⟩⟩

theorem witness_ProgramCounterWraps :
    ({ State.reset with mode := .running, pc := 0xFFFFFFFFFFFFFFFC#64, cycleBudget := 0xFFFFFFFFFFFFFFFD#64 } :
      State).iterates := ⟨rfl, by decide⟩

theorem witness_InvariantKeptByEveryStep :
    (running 0x00100513#32 8).Inv ∧ ∃ t, step (running 0x00100513#32 8) = .next t :=
  ⟨⟨by decide, by decide, by decide, rfl⟩, ⟨_, rfl⟩⟩

theorem witness_InvariantAtReset : (running 0x00100513#32 8).mem.wf := by decide

theorem witness_StepAlwaysAnswersAfterReset : (halted [.fetch]).wasReset = true := by decide

/-- A step for each way the program counter or the control state can change: iteration, run command, reset command. -/
theorem witness_whole_machine_rules :
    (∃ t, step (running 0x13#32 8) = .next t) ∧ (∃ t, step { running 0x13#32 8 with mode := .halted, hostQueue := [.run 8#64] } = .next t) ∧
      (∃ t, step (halted [.reset 5#32]) = .next t) ∧ ∃ t, exec (.addi 1#5 1#5 1#12) State.reset = .next t :=
  ⟨⟨_, rfl⟩, ⟨_, rfl⟩, ⟨_, rfl⟩, ⟨_, rfl⟩⟩

theorem witness_HostHasNoMoveDuringARun :
    (running 0x13#32 8).runInProgress = true ∧ ∃ t, step (running 0x13#32 8) = .next t := ⟨rfl, ⟨_, rfl⟩⟩

/-- A step that emits a diagnostic. -/
theorem witness_DiagnosticsAreAppendOnly : ∃ t, step (running 0x00000073#32 8) = .next t := ⟨_, rfl⟩

/-- The reset command from a HALTED state, and from a state that no reset has reached with `mode` RUNNING. -/
theorem witness_ResetCommandValues :
    (halted [.reset 1024#32]).runInProgress = false ∧ (halted [.reset 1024#32]).hostQueue = [.reset 1024#32] ∧
      (unreset [.reset 1024#32]).runInProgress = false ∧ (unreset [.reset 1024#32]).hostQueue = [.reset 1024#32] := by
  decide

theorem witness_ExecuteCommandOnlyExecutes : (halted [.execute 0x73#32]).accepts (.execute 0x73#32) [] :=
  ⟨rfl, rfl, rfl⟩

/-- The dump with no line, with one, and with all eight. -/
theorem witness_DumpShowsRegisters :
    (halted [.dump]).accepts .dump [] ∧ ({ halted [.dump] with tickCount := 1#64 } : State).accepts .dump [] ∧
      ({ halted [.dump] with tickCount := 29#64 } : State).accepts .dump [] :=
  ⟨⟨rfl, rfl, rfl⟩, ⟨rfl, rfl, rfl⟩, ⟨rfl, rfl, rfl⟩⟩

theorem witness_OnlyResetBeforeTheFirstReset :
    (unreset [.fetch]).wasReset = false ∧ (unreset [.fetch]).hostQueue = [.fetch] ∧
      (∀ r, HostMove.fetch ≠ .reset r) ∧ ∀ a b, HostMove.fetch ≠ .writeByte a b :=
  ⟨rfl, rfl, (fun _ => by simp), (fun _ _ => by simp)⟩

theorem witness_HaltedMachineWaits :
    State.reset.runInProgress = false ∧ State.reset.hostQueue = [] ∧
      (unreset []).runInProgress = false ∧ (unreset []).hostQueue = [] := by decide

/-- One state for each side of the statement: the host's `reset`, and its store to memory. -/
theorem witness_NothingRunsBeforeTheFirstReset :
    (unreset [.reset 5#32]).wasReset = false ∧ (∃ t, step (unreset [.reset 5#32]) = .next t) ∧
      ∃ t, step (unreset [.writeByte 0#64 1#8]) = .next t :=
  ⟨rfl, ⟨_, rfl⟩, ⟨_, rfl⟩⟩

end Sys2Proof.Tests
end

section
/-! The state family: what each operation can do to the program counter, and register 0 (spec/10_state.md rules R22 and
R26). -/

namespace Sys2Proof.Machine

/-! ### Effects and moves -/

/-- An instruction that answers a next state has had one of the effects. -/
theorem Effect.of_exec {i : Instr} {s t : State} (h : exec i s = .next t) : Effect s t := by
  obtain ⟨u, hu, he⟩ := exec_effect i s
  rw [hu] at h
  cases h
  exact he

/-- No effect of an instruction touches the program counter (rule R131). -/
theorem Effect.pc_eq {s t : State} (h : Effect s t) : t.pc = s.pc := h.keeps.1

/-- A step that iterates is an iteration of the run loop (spec/44_run_loop.md rules R183 and R185). -/
theorem step_of_iterates {s : State} (h : s.iterates) : step s = runIteration s := by
  obtain ⟨hrun, hpc⟩ := h
  have hg : s.guardStops = false := s.guardStops_false_iff.2 hpc
  rw [step_running hrun, runStep, hg, if_neg Bool.false_ne_true]

/-- A move that may not come before the first reset is performed only as an accepted command (rule R38). -/
theorem State.accepts_of_performed {s : State} {m : HostMove} {rest : List HostMove} (hrun : s.runInProgress = false)
    (hq : s.hostQueue = m :: rest) (hok : (s.wasReset || m.beforeResetOk) = true) (hm : m.beforeResetOk = false) :
    s.accepts m rest := by
  have hreset : s.wasReset = true := by simpa [hm] using hok
  refine ⟨?_, hreset, hq⟩
  cases hmode : s.mode with
  | halted => rfl
  | running => simp [s.runInProgress_iff.2 ⟨hreset, hmode⟩] at hrun

/-! ### The program counter (rule R26) -/

/-- A step of a run adds 4 to the program counter below the ceiling and leaves it at or above the ceiling. -/
theorem runStep_pc {s t : State} (h : runStep s = .next t) :
    t.pc = if s.pc < s.cycleBudget then s.pc + 4#64 else s.pc := by
  obtain ⟨hg, rfl⟩ | ⟨hg, u, -, he, rfl⟩ := runStep_cases h
  · have hle : ¬ s.pc < s.cycleBudget := BitVec.not_lt.2 (s.guardStops_iff.1 hg)
    rw [if_neg hle, State.halt_pc]
  · rw [if_pos (s.guardStops_false_iff.1 hg), State.finishIteration_pc, he.pc_eq, State.advancePc_pc, Config.instrBytes]

/-- A move of the host leaves the program counter, or is a `run` whose first iteration adds 4, or a `reset`. -/
theorem performMove_pc {m : HostMove} {s t : State} (h : performMove m s = .next t) :
    t.pc = s.pc ∨ (∃ limit, m = .run limit ∧ s.pc < limit ∧ t.pc = s.pc + 4#64) ∨
      (∃ ramSize, m = .reset ramSize ∧ t.pc = 0#64) := by
  obtain ⟨r, rfl, rfl⟩ | ⟨-, rfl⟩ | ⟨w, -, -, he⟩ | ⟨limit, rfl, hrun⟩ | ⟨-, rfl⟩ | ⟨a, b, -, rfl⟩ :=
    performMove_cases h
  case inl => exact .inr (.inr ⟨r, rfl, rfl⟩)
  case inr.inr.inl => exact .inl he.pc_eq
  case inr.inr.inr.inl =>
    have hpc := runStep_pc hrun
    rw [State.enterRun_pc, State.enterRun_cycleBudget] at hpc
    by_cases hlt : s.pc < limit
    · exact .inr (.inl ⟨limit, rfl, hlt, by rw [hpc, if_pos hlt]⟩)
    · exact .inl (by rw [hpc, if_neg hlt])
  all_goals exact .inl rfl

/-- What a step does to the program counter: nothing, 4 more by an iteration, or 0 by a reset. -/
theorem step_pc {s t : State} (h : step s = .next t) :
    t.pc = s.pc ∨
      (t.pc = s.pc + 4#64 ∧ (s.iterates ∨ ∃ limit rest, s.accepts (.run limit) rest ∧ s.pc < limit)) ∨
      (t.pc = 0#64 ∧ s.runInProgress = false ∧ ∃ ramSize rest, s.hostQueue = .reset ramSize :: rest) := by
  obtain ⟨hrun, hs⟩ | ⟨-, -, rfl⟩ | ⟨m, rest, hrun, hq, hok, hs⟩ := step_cases h
  · have hpc := runStep_pc hs
    by_cases hlt : s.pc < s.cycleBudget
    · exact .inr (.inl ⟨by rw [hpc, if_pos hlt], .inl ⟨hrun, hlt⟩⟩)
    · exact .inl (by rw [hpc, if_neg hlt])
  · exact .inl rfl
  · obtain hpc | ⟨limit, rfl, hlt, hpc⟩ | ⟨ramSize, rfl, hpc⟩ := performMove_pc hs
    · exact .inl hpc
    · exact .inr (.inl ⟨hpc, .inr ⟨limit, rest, State.accepts_of_performed hrun hq hok rfl, hlt⟩⟩)
    · exact .inr (.inr ⟨hpc, hrun, ramSize, rest, hq⟩)

/-- An iteration's instruction sees, and the iteration leaves, the address of the instruction plus 4. -/
theorem iteration_pc {s : State} (h : s.iterates) :
    ∃ u t, executeWord s.fetchWord s.advancePc = .next u ∧ step s = .next t ∧ t.pc = s.pc + 4#64 ∧
      u.pc = s.pc + 4#64 := by
  obtain ⟨u, hu, he, hnext⟩ := runIteration_next s
  have hpc : u.pc = s.pc + 4#64 := he.pc_eq
  exact ⟨u, u.finishIteration, hu, by rw [step_of_iterates h, hnext], by rw [State.finishIteration_pc, hpc], hpc⟩

/-- Settles O37, from what each shared operation can do to the program counter. -/
theorem programCounterChangesInTwoWays : Obligations.ProgramCounterChangesInTwoWays :=
  ⟨fun _ _ => step_pc, fun _ _ _ h => (Effect.of_exec h).pc_eq, fun _ => iteration_pc⟩

/-! ### Register 0 (rule R22) -/

/-- An ADDI writes its sum through the write port (spec/42_integer_compute.md rule R140). -/
theorem exec_addi (rd rs1 : RegIdx) (imm : Imm12) (s : State) :
    exec (.addi rd rs1 imm) s = .next (s.writeReg rd (addWords (s.readReg rs1) (immValue imm))) := rfl

/-- An ADD writes its sum through the write port (spec/42_integer_compute.md rule R141). -/
theorem exec_add (rd rs1 rs2 : RegIdx) (s : State) :
    exec (.add rd rs1 rs2) s = .next (s.writeReg rd (addWords (s.readReg rs1) (s.readReg rs2))) := rfl

/-- An ADDI to x0 completes and changes nothing: its write is discarded. -/
theorem exec_addi_zero (s : State) (rs1 : RegIdx) (imm : Imm12) : exec (.addi 0#5 rs1 imm) s = .next s := by
  rw [exec_addi, State.writeReg_zero]

/-- An ADD to x0 completes and changes nothing: its write is discarded. -/
theorem exec_add_zero (s : State) (rs1 rs2 : RegIdx) : exec (.add 0#5 rs1 rs2) s = .next s := by
  rw [exec_add, State.writeReg_zero]

/-- Settles O21: the read port answers 0 for x0 and the write port discards a write to it. -/
theorem registerZeroIsConstant : Obligations.RegisterZeroIsConstant :=
  ⟨State.readReg_zero, exec_addi_zero, exec_add_zero⟩

end Sys2Proof.Machine
end

section
/-! The memory family: how the fetched word is made of the four bytes at the program counter (spec/20_memory.md rule R56,
spec/40_fetch.md rule R111). -/

namespace Sys2Proof

/-! ### The fields of an assembled word (rules R56 and R81) -/

section AssembledWord

variable (b0 b1 b2 b3 : Byte)

/-- The shifted bytes of rule R111 do not overlap, so joining them with `or` puts them side by side. -/
theorem assembleWord_eq_append : assembleWord b0 b1 b2 b3 = b3 ++ b2 ++ b1 ++ b0 := by
  have hreorder : assembleWord b0 b1 b2 b3 =
      b3.setWidth 32 <<< 24 ||| b2.setWidth 32 <<< 16 ||| b1.setWidth 32 <<< 8 ||| b0.setWidth 32 := by
    rw [assembleWord, BitVec.or_comm, BitVec.or_comm _ (b2.setWidth 32 <<< 16), BitVec.or_comm (b0.setWidth 32),
      ← BitVec.or_assoc, ← BitVec.or_assoc]
  calc assembleWord b0 b1 b2 b3
    _ = (b3 ++ b2 ++ b1 ++ b0).setWidth 32 := by
        rw [hreorder, BitVec.setWidth_append_append_append_eq_shiftLeft_setWidth_or]
    _ = b3 ++ b2 ++ b1 ++ b0 := BitVec.setWidth_eq _

/-- The opcode lies in the byte at the lowest address. -/
theorem opcodeOf_assembleWord : opcodeOf (assembleWord b0 b1 b2 b3) = b0.setWidth 7 := by
  rw [assembleWord_eq_append, opcodeOf, BitVec.extractLsb'_append_eq_of_add_le (by decide),
    BitVec.setWidth_eq_extractLsb' (by decide)]

/-- `rd` straddles the two lowest bytes: bits 0 to 3 of the second above bit 7 of the first. -/
theorem rdOf_assembleWord : rdOf (assembleWord b0 b1 b2 b3) = b1.extractLsb' 0 4 ++ b0.extractLsb' 7 1 := by
  have hlow : (b3 ++ b2 ++ b1 ++ b0).extractLsb' 7 1 = b0.extractLsb' 7 1 :=
    BitVec.extractLsb'_append_eq_of_add_le (by decide)
  have hhigh : (b3 ++ b2 ++ b1 ++ b0).extractLsb' 8 4 = b1.extractLsb' 0 4 :=
    (BitVec.extractLsb'_append_eq_of_le (by decide)).trans (BitVec.extractLsb'_append_eq_of_add_le (by decide))
  rw [assembleWord_eq_append, ← hlow, ← hhigh, BitVec.extractLsb'_append_extractLsb'_eq_extractLsb' (by rfl), rdOf]

/-- The immediate is the whole fourth byte above the high half of the third. -/
theorem immOf_assembleWord : immOf (assembleWord b0 b1 b2 b3) = b3 ++ b2.extractLsb' 4 4 := by
  rw [assembleWord_eq_append, immOf, BitVec.extractLsb'_append_eq_of_le (by decide),
    BitVec.extractLsb'_append_eq_of_le (by decide), BitVec.extractLsb'_append_eq_ite, dif_pos (by decide),
    dif_neg (by decide)]
  exact congrArg (· ++ b2.extractLsb' 4 4) b3.extractLsb'_eq_self

end AssembledWord

end Sys2Proof

namespace Sys2Proof.Machine

/-! ### The fetched word (rule R111) -/

/-- The four bytes read for an instruction, at addresses modulo 2^64 (rule R111, decision D7). -/
theorem State.readBytes_four (s : State) (a : Addr) :
    s.readBytes a 4 = [s.readByte a, s.readByte (a + 1#64), s.readByte (a + 2#64), s.readByte (a + 3#64)] := by
  simp [State.readBytes, BitVec.add_assoc]

/-- The fetched word is assembled from the four bytes read at the program counter. -/
theorem State.fetchWord_of_readBytes {s : State} {b0 b1 b2 b3 : Byte} (h : s.readBytes s.pc 4 = [b0, b1, b2, b3]) :
    s.fetchWord = assembleWord b0 b1 b2 b3 := by
  obtain ⟨h0, h1, h2, h3⟩ : s.readByte s.pc = b0 ∧ s.readByte (s.pc + 1#64) = b1 ∧ s.readByte (s.pc + 2#64) = b2 ∧
      s.readByte (s.pc + 3#64) = b3 := by simpa [State.readBytes_four] using h
  rw [State.fetchWord, h0, h1, h2, h3]

/-- Settles O8: each field of the word lies in the bytes that `assembleWord` puts at its bits. -/
theorem fetchIsLittleEndian : Obligations.FetchIsLittleEndian := fun _ =>
  ⟨rfl, fun h => (State.fetchWord_of_readBytes h).trans (by decide), opcodeOf_assembleWord .., rdOf_assembleWord ..,
    immOf_assembleWord ..⟩

end Sys2Proof.Machine
end

section
/-! The encoding family: the fields of an instruction word as masks, shifts and a sign extension (spec/30_encoding.md
rules R81 and R82). -/

namespace Sys2Proof

/-! ### The four fields (rule R81) -/

/-- A field of `n` bits at bit `k`, zero-extended, is the word shifted down and masked with `n` ones. -/
theorem extractLsb'_setWidth_eq_mask (w : Word) (k n : Nat) :
    (w.extractLsb' k n).setWidth 32 = (w >>> k) &&& (BitVec.allOnes n).setWidth 32 := by
  apply BitVec.eq_of_getLsbD_eq
  intro i hi
  simp [hi, Bool.and_comm]

theorem opcodeOf_eq_mask (w : Word) : (opcodeOf w).setWidth 32 = w &&& 0x7F#32 :=
  (extractLsb'_setWidth_eq_mask w 0 7).trans (by rw [BitVec.ushiftRight_zero]; rfl)

theorem rdOf_eq_mask (w : Word) : (rdOf w).setWidth 32 = (w >>> 7) &&& 0x1F#32 :=
  extractLsb'_setWidth_eq_mask w 7 5

theorem rs1Of_eq_mask (w : Word) : (rs1Of w).setWidth 32 = (w >>> 15) &&& 0x1F#32 :=
  extractLsb'_setWidth_eq_mask w 15 5

theorem rs2Of_eq_mask (w : Word) : (rs2Of w).setWidth 32 = (w >>> 20) &&& 0x1F#32 :=
  extractLsb'_setWidth_eq_mask w 20 5

/-- Both fields begin at bit 20, so `rs2` overlaps the low end of the immediate. -/
theorem rs2Of_eq_immOf_low (w : Word) : rs2Of w = (immOf w).setWidth 5 := by
  rw [rs2Of, immOf, BitVec.setWidth_extractLsb'_of_le (by decide)]

/-- Settles O4: each field is an instance of the one mask-and-shift law. -/
theorem fieldsAreMasksAndShifts : Obligations.FieldsAreMasksAndShifts := fun w =>
  ⟨opcodeOf_eq_mask w, rdOf_eq_mask w, rs1Of_eq_mask w, rs2Of_eq_mask w, rs2Of_eq_immOf_low w,
    (rdOf w).isLt, (rs1Of w).isLt, (rs2Of w).isLt⟩

/-! ### The ADDI class (rule R84) -/

theorem decodeWord_of_opcode_addi {w : Word} (h : opcodeOf w = 0x13#7) :
    decodeWord w = .addi (rdOf w) (rs1Of w) (immOf w) := by
  rw [decodeWord, if_neg (by rw [h]; decide), if_pos h]

end Sys2Proof

namespace Sys2Proof.Machine

/-! ### The immediate (rule R82) -/

/-- The immediate's sign bit is the word's own top bit, so the sign that the extension repeats is the one that the
arithmetic shift repeats; the bits below it are the word's bits from 20 up in both. -/
theorem immValue_immOf (w : Word) : immValue (immOf w) = w.sshiftRight 20 := by
  have hsign : (immOf w).msb = w.msb := by
    rw [immOf, BitVec.msb_extractLsb', BitVec.msb_eq_getMsbD_zero]
    simp
  apply BitVec.eq_of_getElem_eq
  intro i hi
  rw [immValue, BitVec.getElem_signExtend, BitVec.getElem_sshiftRight, hsign]
  by_cases hlow : i < 12
  · have hword : 20 + i < 32 := by omega
    rw [dif_pos hlow, dif_pos hword]
    simp [immOf, hword]
  · have hword : ¬ 20 + i < 32 := by omega
    rw [dif_neg hlow, dif_neg hword]

/-- Sign extension keeps the signed value of the immediate. -/
theorem immValue_toInt (imm : Imm12) : (immValue imm).toInt = imm.toInt :=
  BitVec.toInt_signExtend_of_le (by decide)

/-- An immediate has the range of a signed 12-bit number. -/
theorem immValue_range (imm : Imm12) : -2048 ≤ (immValue imm).toInt ∧ (immValue imm).toInt ≤ 2047 := by
  rw [immValue_toInt]
  exact ⟨BitVec.le_toInt imm, Int.le_of_lt_add_one BitVec.toInt_lt⟩

/-- The table of rule R82. -/
theorem immValue_table :
    immValue 0x000#12 = 0x00000000#32 ∧ immValue 0x001#12 = 0x00000001#32 ∧ immValue 0x7FF#12 = 0x000007FF#32 ∧
      immValue 0x800#12 = 0xFFFFF800#32 ∧ immValue 0xFFB#12 = 0xFFFFFFFB#32 ∧ immValue 0xFFF#12 = 0xFFFFFFFF#32 := by
  decide

/-- Settles O5: an ADDI word decodes to its immediate field, whose extension is the arithmetic shift of the word. -/
theorem immediateIsSignExtended : Obligations.ImmediateIsSignExtended :=
  ⟨fun w h => ⟨_, _, _, decodeWord_of_opcode_addi h, immValue_immOf w⟩,
    fun w => ⟨immValue_immOf w, immValue_range (immOf w)⟩, immValue_table⟩

end Sys2Proof.Machine
end

section
/-! The dispatch family: what `execute(word)` does for each opcode, which register it writes, and what it depends on
(spec/41_decode_dispatch.md rules R130 to R134). -/

namespace Sys2Proof

/-! ### The classes of the opcode map (rule R84) -/

theorem decodeWord_of_opcode_null {w : Word} (h : opcodeOf w = 0x00#7) : decodeWord w = .null := by
  rw [decodeWord, if_pos h]

theorem decodeWord_of_opcode_add {w : Word} (h : opcodeOf w = 0x33#7) :
    decodeWord w = .add (rdOf w) (rs1Of w) (rs2Of w) := by
  rw [decodeWord, if_neg (by rw [h]; decide), if_neg (by rw [h]; decide), if_pos h]

theorem decodeWord_of_unimplemented {w : Word} (h : Opcode.unimplemented (opcodeOf w)) :
    decodeWord w = unimpOf (opcodeOf w) := by
  obtain ⟨h0, h13, h33⟩ := h
  rw [decodeWord, if_neg h0, if_neg h13, if_neg h33]

end Sys2Proof

namespace Sys2Proof.Machine

/-! ### The four arms (rule R130) -/

/-- Every row of the UNIMP class emits its own opcode (spec/43_null_unimplemented.md rule R161). -/
theorem exec_of_unimplemented {i : Instr} (h : Opcode.unimplemented i.opcode) (s : State) :
    exec i s = .next (s.emitDiag i.opcode) := by
  obtain ⟨h0, h13, h33⟩ := h
  cases i with
  | null => exact absurd rfl h0
  | addi rd rs1 imm => exact absurd rfl h13
  | add rd rs1 rs2 => exact absurd rfl h33
  | _ => rfl

section Arms

variable {w : Word} (s : State)

theorem executeWord_of_opcode_null (h : opcodeOf w = 0x00#7) : executeWord w s = .next s := by
  rw [executeWord, decodeWord_of_opcode_null h]
  rfl

theorem executeWord_of_opcode_addi (h : opcodeOf w = 0x13#7) :
    executeWord w s = .next (s.writeReg (rdOf w) (s.readReg (rs1Of w) + (immOf w).signExtend 32)) := by
  rw [executeWord, decodeWord_of_opcode_addi h, exec_addi, addWords, immValue]

theorem executeWord_of_opcode_add (h : opcodeOf w = 0x33#7) :
    executeWord w s = .next (s.writeReg (rdOf w) (s.readReg (rs1Of w) + s.readReg (rs2Of w))) := by
  rw [executeWord, decodeWord_of_opcode_add h, exec_add, addWords]

theorem executeWord_of_unimplemented (h : Opcode.unimplemented (opcodeOf w)) :
    executeWord w s = .next (s.emitDiag (opcodeOf w)) := by
  have ⟨h0, h13, h33⟩ := h
  have hrow := unimpOf_opcode (opcodeOf w) h0 h13 h33
  rw [executeWord, decodeWord_of_unimplemented h, exec_of_unimplemented (hrow.symm ▸ h), hrow]

end Arms

/-- Settles O12: each branch of the rule is the arm of its class. -/
theorem executeDispatchesOnOpcode : Obligations.ExecuteDispatchesOnOpcode := by
  intro w s
  split_ifs with h0 h13 h33
  · exact executeWord_of_opcode_null s h0
  · exact executeWord_of_opcode_addi s h13
  · exact executeWord_of_opcode_add s h33
  · exact executeWord_of_unimplemented s ⟨h0, h13, h33⟩

/-! ### Totality (rule R132) -/

/-- Executing a word completes, by one of the effects of an instruction. -/
theorem executeWord_effect (w : Word) (s : State) : ∃ t, executeWord w s = .next t ∧ Effect s t :=
  exec_effect (decodeWord w) s

theorem Effect.mode_eq {s t : State} (h : Effect s t) : t.mode = s.mode := by
  obtain ⟨-, -, -, hmode, -⟩ := h.keeps
  exact hmode

/-- Settles O19: no effect touches the mode, and execute has an effect on every state, the next one too. -/
theorem executeNeverFails : Obligations.ExecuteNeverFails := by
  intro w s
  obtain ⟨t, ht, he⟩ := executeWord_effect w s
  exact ⟨t, ht, he.mode_eq, fun w' => (executeWord_effect w' t).imp fun _ => And.left⟩

/-! ### Independence of all but the registers (rule R131) -/

/-- One and the same effect on two states: the second pair of states is what it makes of the first. -/
inductive SameEffect (s s' : State) : State → State → Prop where
  | nothing : SameEffect s s' s s'
  | register (i : RegIdx) (v : Word) : SameEffect s s' (s.writeReg i v) (s'.writeReg i v)
  | diagnostic (op : Opcode) : SameEffect s s' (s.emitDiag op) (s'.emitDiag op)

/-- What an instruction does is determined by the registers it can read. -/
theorem exec_sameEffect (i : Instr) {s s' : State} (hregs : ∀ j, s'.readReg j = s.readReg j) :
    ∃ t t', exec i s = .next t ∧ exec i s' = .next t' ∧ SameEffect s s' t t' := by
  cases i with
  | null => exact ⟨_, _, rfl, rfl, .nothing⟩
  | addi rd rs1 imm =>
    refine ⟨_, _, exec_addi .., exec_addi .., ?_⟩
    rw [hregs]
    exact .register rd _
  | add rd rs1 rs2 =>
    refine ⟨_, _, exec_add .., exec_add .., ?_⟩
    rw [hregs, hregs]
    exact .register rd _
  | _ => exact ⟨_, _, rfl, rfl, .diagnostic _⟩

/-- The same effect on equal registers ends with equal registers. -/
theorem SameEffect.readReg_eq {s s' t t' : State} (h : SameEffect s s' t t') (hregs : ∀ j, s'.readReg j = s.readReg j)
    (j : RegIdx) : t'.readReg j = t.readReg j := by
  cases h with
  | nothing => exact hregs j
  | register i v => rw [State.readReg_writeReg, State.readReg_writeReg, hregs]
  | diagnostic op => exact hregs j

/-- The same effect appends the same diagnostics. -/
theorem SameEffect.diag_eq {s s' t t' : State} (h : SameEffect s s' t t') :
    ∃ emitted, t.diag = s.diag ++ emitted ∧ t'.diag = s'.diag ++ emitted := by
  cases h with
  | nothing => exact ⟨[], by simp⟩
  | register i v => exact ⟨[], by simp⟩
  | diagnostic op => exact ⟨[op], rfl, rfl⟩

/-- From two states with equal registers a word has the same effect. -/
theorem executeWord_congr {w : Word} {s s' t : State} (hregs : ∀ j, s'.readReg j = s.readReg j)
    (h : executeWord w s = .next t) :
    ∃ t', executeWord w s' = .next t' ∧ (∀ j, t'.readReg j = t.readReg j) ∧
      ∃ emitted, t.diag = s.diag ++ emitted ∧ t'.diag = s'.diag ++ emitted := by
  obtain ⟨u, t', hu, ht', hsame⟩ := exec_sameEffect (decodeWord w) hregs
  rw [executeWord, hu] at h
  cases h
  exact ⟨t', ht', hsame.readReg_eq hregs, hsame.diag_eq⟩

/-- An iteration advances the program counter by 4 and counts one tick, whatever its word (spec/44_run_loop.md rule
R182). -/
theorem iteration_pc_tickCount {s : State} (h : s.iterates) :
    ∃ t, step s = .next t ∧ t.pc = s.pc + 4#64 ∧ t.tickCount = s.tickCount + 1#64 := by
  obtain ⟨u, -, he, hnext⟩ := runIteration_next s
  obtain ⟨hpc, -, htick, -⟩ := he.keeps
  refine ⟨u.finishIteration, by rw [step_of_iterates h, hnext], ?_, ?_⟩
  · rw [State.finishIteration_pc, hpc, State.advancePc_pc, Config.instrBytes]
  · rw [State.finishIteration_tickCount, htick, State.advancePc_tickCount]

/-- Settles O20: the frame of an effect, the same effect from equal registers, and the loop around it. -/
theorem executeTouchesRegistersOnly : Obligations.ExecuteTouchesRegistersOnly := by
  refine ⟨fun w s s' t hregs h => ?_, fun s => iteration_pc_tickCount⟩
  obtain ⟨hpc, hbudget, htick, hmode, hmem, -⟩ := (Effect.of_exec h).keeps
  exact ⟨hpc, hbudget, htick, hmode, State.readByte_congr hmem, executeWord_congr hregs h⟩

/-! ### The write port (rule R134) -/

/-- A write is read back, unless it is discarded. -/
theorem State.readReg_writeReg_same (s : State) {i : RegIdx} (hi : i ≠ 0#5) (v : Word) :
    (s.writeReg i v).readReg i = v := by
  rw [State.readReg_writeReg, if_pos ⟨rfl, hi⟩]

/-- A write leaves every other register. -/
theorem State.readReg_writeReg_of_ne (s : State) {i j : RegIdx} (hj : j ≠ i) (v : Word) :
    (s.writeReg i v).readReg j = s.readReg j := by
  rw [State.readReg_writeReg, if_neg fun h => hj h.1]

/-- An ADD leaves in its destination the sum of its sources as they were (rule R133). -/
theorem exec_add_readReg (s : State) {rd : RegIdx} (hrd : rd ≠ 0#5) (rs1 rs2 : RegIdx) :
    ∃ t, exec (.add rd rs1 rs2) s = .next t ∧ t.readReg rd = s.readReg rs1 + s.readReg rs2 :=
  ⟨_, exec_add .., s.readReg_writeReg_same hrd _⟩

/-- An ADDI leaves in its destination the sum of its source as it was and the immediate (rule R133). -/
theorem exec_addi_readReg (s : State) {rd : RegIdx} (hrd : rd ≠ 0#5) (rs1 : RegIdx) (imm : Imm12) :
    ∃ t, exec (.addi rd rs1 imm) s = .next t ∧ t.readReg rd = s.readReg rs1 + imm.signExtend 32 :=
  ⟨_, exec_addi .., s.readReg_writeReg_same hrd _⟩

/-- A word of a computing opcode makes one write, to its `rd`. -/
theorem executeWord_of_computing {w : Word} (h : opcodeOf w = 0x13#7 ∨ opcodeOf w = 0x33#7) (s : State) :
    ∃ v, executeWord w s = .next (s.writeReg (rdOf w) v) := by
  obtain h13 | h33 := h
  · exact ⟨_, executeWord_of_opcode_addi s h13⟩
  · exact ⟨_, executeWord_of_opcode_add s h33⟩

/-- A word of any other opcode writes no register. -/
theorem executeWord_readReg_of_not_computing {w : Word} {s t : State} (h13 : opcodeOf w ≠ 0x13#7)
    (h33 : opcodeOf w ≠ 0x33#7) (h : executeWord w s = .next t) (j : RegIdx) : t.readReg j = s.readReg j := by
  by_cases h0 : opcodeOf w = 0x00#7
  · rw [executeWord_of_opcode_null s h0] at h
    cases h
    rfl
  · rw [executeWord_of_unimplemented s ⟨h0, h13, h33⟩] at h
    cases h
    rw [State.emitDiag_readReg]

/-- A word leaves every register but its `rd`. -/
theorem executeWord_readReg_of_ne {w : Word} {s t : State} (h : executeWord w s = .next t) {j : RegIdx}
    (hj : j ≠ rdOf w) : t.readReg j = s.readReg j := by
  by_cases hop : opcodeOf w = 0x13#7 ∨ opcodeOf w = 0x33#7
  · obtain ⟨v, hv⟩ := executeWord_of_computing hop s
    rw [hv] at h
    cases h
    exact s.readReg_writeReg_of_ne hj v
  · obtain ⟨h13, h33⟩ := not_or.1 hop
    exact executeWord_readReg_of_not_computing h13 h33 h j

/-- A word of a computing opcode with `rd = 0` changes nothing: its write is discarded. -/
theorem executeWord_of_rd_zero {w : Word} (hop : opcodeOf w = 0x13#7 ∨ opcodeOf w = 0x33#7) (hrd : rdOf w = 0#5)
    (s : State) : executeWord w s = .next s := by
  obtain ⟨v, hv⟩ := executeWord_of_computing hop s
  rw [hv, hrd, State.writeReg_zero]

/-- Settles O23: the one write goes to `rd`, x0 discards it, and an ADDI of 0 after an ADD copies the sum. -/
theorem atMostOneRegisterIsWritten : Obligations.AtMostOneRegisterIsWritten := by
  refine ⟨fun w s t h j => executeWord_readReg_of_ne h, fun w s hop hrd => executeWord_of_rd_zero hop hrd s,
    fun s rd rs1 rs2 q hrd hq => ?_⟩
  obtain ⟨t, ht, hsum⟩ := exec_add_readReg s hrd rs1 rs2
  obtain ⟨u, hu, hcopy⟩ := exec_addi_readReg t hq rd 0#12
  have hzero : (0#12).signExtend 32 = 0#32 := by decide
  exact ⟨t, u, ht, hu, by rw [hcopy, hsum, hzero, BitVec.add_zero]⟩

/-! ### The read port (rule R133) -/

/-- Settles O22: whichever sources are the destination too, the sum is that of the registers as they were. -/
theorem sourcesAreReadBeforeTheWrite : Obligations.SourcesAreReadBeforeTheWrite := by
  intro s r q imm hr
  refine ⟨?double, exec_add_readReg s hr r q, exec_add_readReg s hr q r, exec_add_readReg s hr q q,
    exec_addi_readReg s hr r imm, ?zero⟩
  case double =>
    obtain ⟨t, ht, hsum⟩ := exec_add_readReg s hr r r
    exact ⟨t, ht, by rw [hsum, BitVec.toNat_add, Nat.two_mul]⟩
  case zero =>
    obtain ⟨t, ht, hsum⟩ := exec_add_readReg s hr 0#5 q
    exact ⟨t, ht, by rw [hsum, State.readReg_zero, BitVec.zero_add]⟩

end Sys2Proof.Machine
end

section
/-! The integer family: ADDI and ADD complete with their sum in `rd` and change nothing else
(spec/42_integer_compute.md rules R140 and R141). -/

namespace Sys2Proof

/-! ### The canonical words (spec/30_encoding.md rule R88) -/

theorem encode_addi_eq (rd rs1 : RegIdx) (imm : Imm12) : encode (.addi rd rs1 imm) =
    (imm.setWidth 32 <<< 20 ||| rs1.setWidth 32 <<< 15 ||| rd.setWidth 32 <<< 7 ||| 0x13#32) := rfl

theorem encode_add_eq (rd rs1 rs2 : RegIdx) : encode (.add rd rs1 rs2) =
    (rs2.setWidth 32 <<< 20 ||| rs1.setWidth 32 <<< 15 ||| rd.setWidth 32 <<< 7 ||| 0x33#32) := rfl

end Sys2Proof

namespace Sys2Proof.Machine

/-! ### The result and the frame -/

/-- The frame of the write port: only the register file changes. -/
theorem State.keepsAllButRegisters_writeReg (s : State) (i : RegIdx) (v : Word) :
    s.KeepsAllButRegisters (s.writeReg i v) where
  pc := s.writeReg_pc i v
  cycleBudget := s.writeReg_cycleBudget i v
  tickCount := s.writeReg_tickCount i v
  mode := s.writeReg_mode i v
  diag := s.writeReg_diag i v
  replies := s.writeReg_replies i v
  hostQueue := s.writeReg_hostQueue i v
  wasReset := s.writeReg_wasReset i v
  memory := s.writeReg_readByte i v

/-- The worked example of rule R140, `addi x5, x6, -5`. -/
theorem executeWord_addi_example {s : State} (h6 : s.readReg 6#5 = 0x0000000A#32) :
    ∃ t, executeWord 0xFFB30293#32 s = .next t ∧ t.readReg 5#5 = 0x00000005#32 := by
  have hdec : decodeWord 0xFFB30293#32 = .addi 5#5 6#5 0xFFB#12 := decodeWord_of_opcode_addi (by decide)
  obtain ⟨t, ht, hsum⟩ := exec_addi_readReg s (rd := 5#5) (by decide) 6#5 0xFFB#12
  refine ⟨t, by rw [executeWord, hdec, ht], ?_⟩
  rw [hsum, h6]
  decide

/-- The worked example of rule R141, `add x7, x5, x6`. -/
theorem executeWord_add_example {s : State} (h5 : s.readReg 5#5 = 0x00000007#32)
    (h6 : s.readReg 6#5 = 0x00000023#32) :
    ∃ t, executeWord 0x006283B3#32 s = .next t ∧ t.readReg 7#5 = 0x0000002A#32 := by
  have hdec : decodeWord 0x006283B3#32 = .add 7#5 5#5 6#5 := decodeWord_of_opcode_add (by decide)
  obtain ⟨t, ht, hsum⟩ := exec_add_readReg s (rd := 7#5) (by decide) 5#5 6#5
  refine ⟨t, by rw [executeWord, hdec, ht], ?_⟩
  rw [hsum, h5, h6]
  decide

/-- Settles O13: ADDI is one write of its sum through the write port, whose rule gives the result and whose frame gives
the rest. -/
theorem addiCompletes : Obligations.AddiCompletes :=
  ⟨fun _ => decodeWord_of_opcode_addi, encode_addi_eq, fun _ => executeWord_addi_example,
    fun rd rs1 imm s => ⟨_, exec_addi rd rs1 imm s, fun j => s.readReg_writeReg rd j _,
      s.keepsAllButRegisters_writeReg rd _⟩⟩

/-- Settles O14: ADD is one write of its sum through the write port, whose rule gives the result and whose frame gives
the rest. -/
theorem addCompletes : Obligations.AddCompletes :=
  ⟨fun _ => decodeWord_of_opcode_add, encode_add_eq, fun _ => executeWord_add_example,
    fun rd rs1 rs2 s => ⟨_, exec_add rd rs1 rs2 s, fun j => s.readReg_writeReg rd j _,
      s.keepsAllButRegisters_writeReg rd _⟩⟩

end Sys2Proof.Machine
end

section
/-! The no-op family: NULL and the UNIMP rows complete, compute nothing, and cost one iteration
(spec/43_null_unimplemented.md rules R160 and R161). -/

namespace Sys2Proof

/-- A word of the UNIMP class decodes to the row of its own opcode (spec/30_encoding.md rule R85). -/
theorem decodeWord_opcode_of_unimplemented {w : Word} (h : Opcode.unimplemented (opcodeOf w)) :
    (decodeWord w).opcode = opcodeOf w := by
  have ⟨h0, h13, h33⟩ := h
  rw [decodeWord_of_unimplemented h, unimpOf_opcode _ h0 h13 h33]

end Sys2Proof

namespace Sys2Proof.Machine

/-! ### An iteration around a known execution (spec/44_run_loop.md rules R182 and R184) -/

/-- When it is known what the fetched word does, so is the whole iteration. -/
theorem step_of_executeWord {s u : State} (h : s.iterates) (hu : executeWord s.fetchWord s.advancePc = .next u) :
    step s = .next u.finishIteration := by
  obtain ⟨t, ht, -, hnext⟩ := runIteration_next s
  obtain rfl : t = u := Host.Outcome.next.inj (ht.symm.trans hu)
  rw [step_of_iterates h, hnext]

/-- A run goes on after an iteration unless the early exit fires. -/
theorem State.finishIteration_mode_of_running {s : State} (h : s.mode = .running) :
    s.finishIteration.mode = if s.cycleBudget < (s.readReg 2#5).setWidth 64 then .halted else .running := by
  simp only [State.finishIteration_mode, State.earlyExit_iff, State.countTick_cycleBudget, State.countTick_readReg, h]

/-! ### NULL (rule R160) -/

/-- The iteration of a NULL word. -/
theorem step_of_null {s : State} (h : s.iterates) (hw : opcodeOf s.fetchWord = 0x00#7) :
    step s = .next s.advancePc.finishIteration :=
  step_of_executeWord h (executeWord_of_opcode_null s.advancePc hw)

/-- Settles O15: the iteration of a NULL word is the program counter's advance and the end of the iteration. -/
theorem nullCompletes : Obligations.NullCompletes := by
  refine ⟨fun _ => decodeWord_of_opcode_null, fun _ => rfl, fun s h hw => ⟨_, step_of_null h hw, ?_⟩⟩
  simp [Config.instrBytes]

/-! ### The UNIMP rows (rule R161) -/

/-- The iteration of a word of the UNIMP class. -/
theorem step_of_unimplemented {s : State} (h : s.iterates) (hw : Opcode.unimplemented (opcodeOf s.fetchWord)) :
    step s = .next (s.advancePc.emitDiag (opcodeOf s.fetchWord)).finishIteration :=
  step_of_executeWord h (executeWord_of_unimplemented s.advancePc hw)

/-- Settles O16: a row's one effect is its diagnostic, so the iteration around it adds the program counter's advance,
the tick, and the early exit on the ceiling and x2 as they were. -/
theorem unimplementedCompletes : Obligations.UnimplementedCompletes := by
  refine ⟨fun _ => decodeWord_opcode_of_unimplemented, fun _ => exec_of_unimplemented, fun s h hw =>
    ⟨_, step_of_unimplemented h hw, ?_⟩⟩
  obtain ⟨hrun, -⟩ := h
  obtain ⟨-, hmode⟩ := s.runInProgress_iff.1 hrun
  have hexit := State.finishIteration_mode_of_running (s := s.advancePc.emitDiag (opcodeOf s.fetchWord)) hmode
  simp [Config.instrBytes, hexit]

end Sys2Proof.Machine
end

section
/-! The run-loop family: one iteration, the entry of `run`, the number of iterations of a run, and the run that never
ends (spec/44_run_loop.md). -/

namespace Sys2Proof.Machine

/-! ### One iteration (rules R182 and R184) -/

/-- What an iteration does to every element but the registers and the diagnostic stream: the program counter and the
tick count advance, the early exit decides the mode, and the others stay (rules R182 and R184). -/
structure State.IteratesTo (s t : State) : Prop where
  pc : t.pc = s.pc + 4#64
  tickCount : t.tickCount = s.tickCount + 1#64
  cycleBudget : t.cycleBudget = s.cycleBudget
  mem : t.mem = s.mem
  hostQueue : t.hostQueue = s.hostQueue
  replies : t.replies = s.replies
  wasReset : t.wasReset = s.wasReset
  mode : t.mode = if s.cycleBudget < (t.readReg 2#5).setWidth 64 then .halted else .running

/-- The effect of an instruction on the advanced state of a run, then the end of the iteration. -/
theorem Effect.iteratesTo {s u : State} (hrun : s.runInProgress = true) (he : Effect s.advancePc u) :
    s.IteratesTo u.finishIteration := by
  obtain ⟨hpc, hbudget, htick, hmode, hmem, hreplies, hqueue, hreset⟩ := he.keeps
  obtain ⟨-, hrunning⟩ := s.runInProgress_iff.1 hrun
  have hexit := State.finishIteration_mode_of_running (hmode.trans hrunning)
  constructor <;> simp [hpc, hbudget, htick, hmem, hreplies, hqueue, hreset, hexit, Config.instrBytes]

/-- A step that iterates has the registers and the diagnostics of the execution of the fetched word, and the frame of an
iteration. -/
theorem step_iteratesTo {s : State} (h : s.iterates) :
    ∃ u t, executeWord s.fetchWord s.advancePc = .next u ∧ step s = .next t ∧
      (∀ j, t.readReg j = u.readReg j) ∧ t.diag = u.diag ∧ s.IteratesTo t := by
  have ⟨hrun, _⟩ := h
  obtain ⟨u, hu, he⟩ := executeWord_effect s.fetchWord s.advancePc
  exact ⟨u, u.finishIteration, hu, step_of_executeWord h hu, u.finishIteration_readReg, u.finishIteration_diag,
    he.iteratesTo hrun⟩

/-- Settles O26: the execution of the fetched word inside the frame of an iteration. -/
theorem iterationBody : Obligations.IterationBody := by
  intro s h
  obtain ⟨u, t, hu, ht, hregs, hdiag, hit⟩ := step_iteratesTo h
  exact ⟨u, t, hu, ht, hregs, hdiag, hit.pc, hit.tickCount, hit.cycleBudget, State.readByte_congr hit.mem,
    hit.hostQueue, hit.replies, hit.mode⟩

/-- A run goes on after an iteration whose early exit does not fire. -/
theorem State.IteratesTo.runInProgress {s t : State} (h : s.IteratesTo t) (hrun : s.runInProgress = true)
    (hexit : ¬ s.cycleBudget < (t.readReg 2#5).setWidth 64) : t.runInProgress = true := by
  obtain ⟨hreset, -⟩ := s.runInProgress_iff.1 hrun
  exact t.runInProgress_iff.2 ⟨h.wasReset.trans hreset, by rw [h.mode, if_neg hexit]⟩

/-! ### The guard and the entry of `run` (rules R181 and R183) -/

/-- At or above the ceiling the guard ends the run. -/
theorem step_of_guard {s : State} (hrun : s.runInProgress = true) (hle : s.cycleBudget ≤ s.pc) :
    step s = .next s.halt := by
  rw [step_running hrun, runStep, if_pos (s.guardStops_iff.2 hle)]

/-- After the entry actions of an accepted `run` a run is in progress. -/
theorem State.accepts.runInProgress_enterRun {s : State} {limit : Addr} {rest : List HostMove}
    (h : s.accepts (.run limit) rest) : (State.enterRun { s with hostQueue := rest } limit).runInProgress = true := by
  obtain ⟨-, hreset, -⟩ := h
  exact (State.runInProgress_iff _).2 ⟨hreset, rfl⟩

/-- An accepted `run` is its entry actions followed by the step of the run they begin (rule R191). -/
theorem step_run_command {s : State} {limit : Addr} {rest : List HostMove} (h : s.accepts (.run limit) rest) :
    step s = step (State.enterRun { s with hostQueue := rest } limit) := by
  rw [step_running h.runInProgress_enterRun]
  obtain ⟨hmode, hreset, hq⟩ := h
  rw [step_command hmode hreset hq, performMove]

/-- Settles O28: after the entry actions a run is in progress, whose guard is tested first. -/
theorem runEntryActions : Obligations.RunEntryActions := by
  intro s limit rest h
  refine ⟨step_run_command h, fun hle => ?_⟩
  rw [step_run_command h, step_of_guard h.runInProgress_enterRun hle]
  rfl

/-! ### The program counter and the ceiling -/

/-- An iteration keeps the program counter a multiple of 4, in the wrap too (rule R27). -/
theorem aligned_add_four {p : Addr} (h : p.toNat % 4 = 0) : (p + 4#64).toNat % 4 = 0 := by
  rw [BitVec.toNat_add, BitVec.toNat_ofNat]
  omega

/-- A ceiling above the last ending one lies above every aligned program counter (rule R190). -/
theorem aligned_lt_of_lastEndingLimit_lt {p limit : Addr} (hp : p.toNat % 4 = 0) (hl : lastEndingLimit < limit) :
    p < limit := by
  have := p.isLt
  simp only [lastEndingLimit, BitVec.lt_def, BitVec.toNat_ofNat] at hl ⊢
  omega

/-- A ceiling above the last ending one lies above every zero-extended register, so the early exit cannot fire. -/
theorem not_lt_setWidth_of_lastEndingLimit_lt {limit : Addr} (hl : lastEndingLimit < limit) (w : Word) :
    ¬ limit < w.setWidth 64 := by
  have := w.isLt
  simp only [lastEndingLimit, BitVec.lt_def, BitVec.toNat_ofNat, BitVec.toNat_setWidth] at hl ⊢
  omega

/-- The guard allows no iteration exactly when the ceiling has been reached (rule R188). -/
theorem guardIterations_eq_zero_iff {p limit : Addr} : guardIterations p limit = 0 ↔ limit ≤ p := by
  rw [guardIterations, BitVec.le_def]
  omega

/-- Below an ending ceiling an iteration uses up one of those the guard allows (rule R188). -/
theorem guardIterations_succ {p limit : Addr} (hp : p.toNat % 4 = 0) (hl : limit ≤ lastEndingLimit) (hlt : p < limit) :
    guardIterations p limit = guardIterations (p + 4#64) limit + 1 := by
  simp only [lastEndingLimit, BitVec.le_def, BitVec.lt_def, BitVec.toNat_ofNat] at hl hlt
  rw [guardIterations, guardIterations, BitVec.toNat_add, BitVec.toNat_ofNat]
  omega

/-- A step of `a` and `n` more are `n + 1` of them, modulo 2^64. -/
theorem add_mul_ofNat_succ (x a : Addr) (n : Nat) :
    x + a + a * BitVec.ofNat 64 n = x + a * BitVec.ofNat 64 (n + 1) := by
  rw [BitVec.ofNat_add, BitVec.mul_add, BitVec.mul_one, BitVec.add_assoc, BitVec.add_comm a]

theorem add_ofNat_succ (x : Addr) (n : Nat) : x + 1#64 + BitVec.ofNat 64 n = x + BitVec.ofNat 64 (n + 1) := by
  rw [BitVec.ofNat_add, BitVec.add_assoc, BitVec.add_comm 1#64]

/-! ### Several steps -/

/-- In every machine `n + 1` steps are a first step and `n` steps from where it leads. -/
theorem coreRun_succ_of_step {M : Host.Core} {s t : M.State} (h : M.step s = .next t) (n : Nat) :
    M.run (n + 1) s = M.run n t := by
  rw [Host.Core.run, h]

/-- `coreRun_succ_of_step` for this machine, in terms of `step`. -/
theorem run_succ_of_step {s t : State} (h : step s = .next t) (n : Nat) :
    Host.Core.run core (n + 1) s = Host.Core.run core n t :=
  coreRun_succ_of_step (M := core) h n

/-! ### The run that never ends (rule R190) -/

/-- An endless run iterates in every state: the guard never stops it. -/
theorem State.RunsForever.iterates {s : State} (h : s.RunsForever) : s.iterates :=
  ⟨h.inProgress, aligned_lt_of_lastEndingLimit_lt h.pcAligned h.ceiling⟩

/-- An iteration leads from an endless run to an endless run. -/
theorem State.IteratesTo.runsForever {s t : State} (h : s.IteratesTo t) (hs : s.RunsForever) : t.RunsForever where
  inProgress := h.runInProgress hs.inProgress (not_lt_setWidth_of_lastEndingLimit_lt hs.ceiling _)
  pcAligned := by rw [h.pc]; exact aligned_add_four hs.pcAligned
  ceiling := by rw [h.cycleBudget]; exact hs.ceiling

/-- Settles O46: the guard lets the iteration start, and its early exit cannot fire. -/
theorem endlessRunIsKeptByEveryStep : Obligations.EndlessRunIsKeptByEveryStep := by
  intro s hs
  obtain ⟨-, t, -, ht, -, -, hit⟩ := step_iteratesTo hs.iterates
  exact ⟨t, ht, hit.runsForever hs, hit.cycleBudget, hit.pc⟩

/-- Settles O31, by induction on the number of steps: every state of an endless run iterates to another one. -/
theorem runNeverEndsAboveTheLastLimit : Obligations.RunNeverEndsAboveTheLastLimit := by
  intro s hs n
  induction n generalizing s with
  | zero =>
    obtain ⟨-, hmode⟩ := s.runInProgress_iff.1 hs.inProgress
    exact ⟨s, rfl, hmode, by simp, by simp⟩
  | succ n ih =>
    obtain ⟨-, t, -, ht, -, -, hit⟩ := step_iteratesTo hs.iterates
    obtain ⟨u, hu, hmode, hpc, htick⟩ := ih t (hit.runsForever hs)
    refine ⟨u, (run_succ_of_step ht n).trans hu, hmode, ?_, ?_⟩
    · rw [hpc, hit.pc, add_mul_ofNat_succ]
    · rw [htick, hit.tickCount, add_ofNat_succ]

/-! ### The run that ends (rule R188) -/

/-- The run from `s` ends `n` iterations later, in `t`: by the early exit of the last of them, or by the guard in the
next step; no iteration before the last met the early exit (section 4 of spec/44_run_loop.md). -/
structure State.RunEndsIn (s : State) (n : Nat) (t : State) : Prop where
  bound : n ≤ guardIterations s.pc s.cycleBudget
  run : Host.Core.run core n s = .next t
  pc : t.pc = s.pc + 4#64 * BitVec.ofNat 64 n
  tickCount : t.tickCount = s.tickCount + BitVec.ofNat 64 n
  cycleBudget : t.cycleBudget = s.cycleBudget
  ending : (t.mode = .halted ∧ 1 ≤ n ∧ s.cycleBudget < (t.readReg 2#5).setWidth 64) ∨
    (t.mode = .running ∧ n = guardIterations s.pc s.cycleBudget ∧ step t = .next t.halt)
  noEarlierExit : ∀ m, 1 ≤ m → m < n → ∃ u, Host.Core.run core m s = .next u ∧ u.mode = .running ∧
    ¬ s.cycleBudget < (u.readReg 2#5).setWidth 64

/-- At or above the ceiling a run ends with no iteration. -/
theorem State.RunEndsIn.of_guard {s : State} (hrun : s.runInProgress = true) (hle : s.cycleBudget ≤ s.pc) :
    s.RunEndsIn 0 s where
  bound := Nat.zero_le _
  run := rfl
  pc := by simp
  tickCount := by simp
  cycleBudget := rfl
  ending := by
    obtain ⟨-, hmode⟩ := s.runInProgress_iff.1 hrun
    exact .inr ⟨hmode, (guardIterations_eq_zero_iff.2 hle).symm, step_of_guard hrun hle⟩
  noEarlierExit m _ hm := absurd hm m.not_lt_zero

/-- An iteration whose early exit fires ends the run. -/
theorem State.RunEndsIn.of_earlyExit {s t : State} (hs : s.iterates) (ht : step s = .next t) (hit : s.IteratesTo t)
    (hexit : s.cycleBudget < (t.readReg 2#5).setWidth 64) : s.RunEndsIn 1 t where
  bound := by
    obtain ⟨-, hlt⟩ := hs
    exact Nat.one_le_iff_ne_zero.2 fun h => BitVec.not_le.2 hlt (guardIterations_eq_zero_iff.1 h)
  run := run_succ_of_step ht 0
  pc := by simp [hit.pc]
  tickCount := hit.tickCount
  cycleBudget := hit.cycleBudget
  ending := .inl ⟨by rw [hit.mode, if_pos hexit], Nat.le_refl 1, hexit⟩
  noEarlierExit m h1 hm := absurd hm (Nat.not_lt.2 h1)

/-- An iteration whose early exit does not fire comes before the rest of the run. -/
theorem State.RunEndsIn.of_iteration {s t u : State} {n : Nat} (ht : step s = .next t) (hit : s.IteratesTo t)
    (hguard : guardIterations s.pc s.cycleBudget = guardIterations (s.pc + 4#64) s.cycleBudget + 1)
    (hexit : ¬ s.cycleBudget < (t.readReg 2#5).setWidth 64) (h : t.RunEndsIn n u) : s.RunEndsIn (n + 1) u := by
  obtain ⟨hbound, hrun, hpc, htick, hbudget, hend, hnone⟩ := h
  rw [hit.pc, hit.cycleBudget] at hbound hend
  rw [hit.cycleBudget] at hbudget hnone
  refine ⟨by omega, (run_succ_of_step ht n).trans hrun, ?_, ?_, hbudget, ?_, fun m h1 hm => ?_⟩
  · rw [hpc, hit.pc, add_mul_ofNat_succ]
  · rw [htick, hit.tickCount, add_ofNat_succ]
  · obtain ⟨hmode, -, hlt⟩ | ⟨hmode, hn, hstep⟩ := hend
    · exact .inl ⟨hmode, n.succ_pos, hlt⟩
    · exact .inr ⟨hmode, by omega, hstep⟩
  · obtain _ | _ | m := m
    · exact absurd h1 (by decide)
    · exact ⟨t, run_succ_of_step ht 0, by rw [hit.mode, if_neg hexit], hexit⟩
    · obtain ⟨v, hv, hmode, hlt⟩ := hnone (m + 1) m.succ_pos (by omega)
      exact ⟨v, (run_succ_of_step ht (m + 1)).trans hv, hmode, hlt⟩

/-- Every aligned run under an ending ceiling ends, by induction on the iterations the guard allows. -/
theorem State.exists_runEndsIn {s : State} {g : Nat} (hg : guardIterations s.pc s.cycleBudget = g)
    (hrun : s.runInProgress = true) (hal : s.pc.toNat % 4 = 0) (hl : s.cycleBudget ≤ lastEndingLimit) :
    ∃ n t, s.RunEndsIn n t := by
  induction g generalizing s with
  | zero => exact ⟨0, s, .of_guard hrun (guardIterations_eq_zero_iff.1 hg)⟩
  | succ g ih =>
    have hlt : s.pc < s.cycleBudget := BitVec.not_le.1 fun hle => by
      rw [guardIterations_eq_zero_iff.2 hle] at hg
      cases hg
    have hguard := guardIterations_succ hal hl hlt
    obtain ⟨-, t, -, ht, -, -, hit⟩ := step_iteratesTo ⟨hrun, hlt⟩
    by_cases hexit : s.cycleBudget < (t.readReg 2#5).setWidth 64
    · exact ⟨1, t, .of_earlyExit ⟨hrun, hlt⟩ ht hit hexit⟩
    · have hg' : guardIterations t.pc t.cycleBudget = g := by rw [hit.pc, hit.cycleBudget]; omega
      obtain ⟨n, u, hend⟩ := ih hg' (hit.runInProgress hrun hexit) (by rw [hit.pc]; exact aligned_add_four hal)
        (by rw [hit.cycleBudget]; exact hl)
      exact ⟨n + 1, u, .of_iteration ht hit hguard hexit hend⟩

/-- Settles O30: the clauses of the statement are those of the end of a run. -/
theorem runEndsAfterMinOfGuardAndEarlyExit : Obligations.RunEndsAfterMinOfGuardAndEarlyExit := by
  intro s hrun hal hl
  obtain ⟨n, t, h⟩ := State.exists_runEndsIn rfl hrun hal hl
  exact ⟨n, t, h.bound, h.run, h.pc, h.tickCount, h.cycleBudget, h.ending, h.noEarlierExit⟩

end Sys2Proof.Machine
end

section
/-! The round trip of the encoder and the decoder, the examined bits, and the assembler's lines as numbers
(spec/30_encoding.md sections 3, 4 and 6). -/

namespace Sys2Proof

/-! ### Decode after encode (rules R83 to R85) -/

/-- An instruction of any class but ADDI and ADD has nothing but its opcode in its word. -/
theorem encode_of_opcodeOnly {i : Instr} (h13 : i.opcode ≠ 0x13#7) (h33 : i.opcode ≠ 0x33#7) :
    encode i = encodeOpcodeOnly i.opcode := by
  cases i with
  | addi rd rs1 imm => exact absurd rfl h13
  | add rd rs1 rs2 => exact absurd rfl h33
  | _ => rfl

/-- The row of an UNIMP instruction's opcode is that instruction: the converse of `unimpOf_opcode`. -/
theorem unimpOf_opcode_self {i : Instr} (h : Opcode.unimplemented i.opcode) : unimpOf i.opcode = i := by
  obtain ⟨h0, h13, h33⟩ := h
  cases i with
  | null => exact absurd rfl h0
  | addi rd rs1 imm => exact absurd rfl h13
  | add rd rs1 rs2 => exact absurd rfl h33
  | _ => rfl

theorem decodeWord_encode_of_unimplemented {i : Instr} (h : Opcode.unimplemented i.opcode) :
    decodeWord (encode i) = i := by
  have ⟨_, h13, h33⟩ := h
  have hop : opcodeOf (encode i) = i.opcode := by rw [encode_of_opcodeOnly h13 h33, opcodeOf_encodeOpcodeOnly]
  rw [decodeWord_of_unimplemented (hop.symm ▸ h), hop, unimpOf_opcode_self h]

/-- The decoder is a left inverse of the encoder: by the classes of the opcode map. -/
@[simp] theorem decodeWord_encode (i : Instr) : decodeWord (encode i) = i := by
  cases i with
  | null => exact decodeWord_of_opcode_null (opcodeOf_encodeOpcodeOnly _)
  | addi rd rs1 imm =>
    rw [encode, decodeWord_of_opcode_addi (opcodeOf_encodeI ..), rdOf_encodeI, rs1Of_encodeI, immOf_encodeI]
  | add rd rs1 rs2 =>
    rw [encode, decodeWord_of_opcode_add (opcodeOf_encodeR ..), rdOf_encodeR, rs1Of_encodeR, rs2Of_encodeR]
  | _ => exact decodeWord_encode_of_unimplemented (by rw [Opcode.unimplemented]; decide)

/-- Settles O1: the bytes of a word decode as the word, and the decoder inverts the encoder on words. -/
theorem decodeOfEncodeIsIdentity : Obligations.DecodeOfEncodeIsIdentity := by
  intro i _
  rw [encodeBytes, decode_wordBytes, decodeWord_encode]

/-! ### Encode after decode (rules R83 and R84) -/

/-- The fields of a word put together again are the word without `funct3`. -/
theorem encodeI_fields (w : Word) :
    encodeI (opcodeOf w) (rdOf w) (rs1Of w) (immOf w) = w &&& 0xFFFF8FFF#32 := by
  apply BitVec.eq_of_getLsbD_eq
  intro i hi
  interval_cases i <;> simp [encodeI, opcodeOf, rdOf, rs1Of, immOf]

/-- The fields of a word put together again are the word without `funct3` and `funct7`. -/
theorem encodeR_fields (w : Word) :
    encodeR (opcodeOf w) (rdOf w) (rs1Of w) (rs2Of w) = w &&& 0x01FF8FFF#32 := by
  apply BitVec.eq_of_getLsbD_eq
  intro i hi
  interval_cases i <;> simp [encodeR, opcodeOf, rdOf, rs1Of, rs2Of]

/-- A word whose class uses the opcode field only is encoded as its opcode. -/
theorem encode_decodeWord_of_opcodeOnly {w : Word} (h13 : opcodeOf w ≠ 0x13#7) (h33 : opcodeOf w ≠ 0x33#7) :
    encode (decodeWord w) = encodeOpcodeOnly (opcodeOf w) := by
  have hop : (decodeWord w).opcode = opcodeOf w := by
    by_cases h0 : opcodeOf w = 0x00#7
    · rw [decodeWord_of_opcode_null h0, h0]
      rfl
    · exact decodeWord_opcode_of_unimplemented ⟨h0, h13, h33⟩
  rw [encode_of_opcodeOnly (hop.symm ▸ h13) (hop.symm ▸ h33), hop]

/-- Encoding what a word decodes to clears the bits not examined: by the three layouts of `examinedBits`. -/
theorem encode_decodeWord (w : Word) : encode (decodeWord w) = w &&& examinedBits (opcodeOf w) := by
  unfold examinedBits
  split_ifs with h13 h33
  · rw [decodeWord_of_opcode_addi h13, encode, ← h13, encodeI_fields]
  · rw [decodeWord_of_opcode_add h33, encode, ← h33, encodeR_fields]
  · rw [encode_decodeWord_of_opcodeOnly h13 h33, encodeOpcodeOnly, opcodeOf_eq_mask]

/-- Settles O2, by the layouts of the classes. -/
theorem encodeOfDecodeKeepsExaminedBits : Obligations.EncodeOfDecodeKeepsExaminedBits := encode_decodeWord

/-- Settles O3: the masked word is the encoding of the instruction, and the encoder is injective. -/
theorem examinedBitsDecideTheInstruction : Obligations.ExaminedBitsDecideTheInstruction := by
  intro w v
  have hinj : Function.Injective encode := Function.LeftInverse.injective decodeWord_encode
  rw [← encode_decodeWord, ← encode_decodeWord, hinj.eq_iff]

/-- Settles O6, by evaluating the decoder on the nine words. -/
theorem sampleWordsDecode : Obligations.SampleWordsDecode := by
  unfold Obligations.SampleWordsDecode
  decide

/-! ### Assembler lines as numbers (rules R88 and R89) -/

/-- The fields of an I-type word lie side by side; the bits of `funct3` are zeros above `rd`. -/
theorem encodeI_eq_append (op : Opcode) (rd rs1 : RegIdx) (imm : Imm12) :
    encodeI op rd rs1 imm = imm ++ rs1 ++ rd.setWidth 8 ++ op := by
  have hrd : rd.setWidth 32 = (rd.setWidth 8).setWidth 32 := (BitVec.setWidth_setWidth (by decide)).symm
  calc encodeI op rd rs1 imm
    _ = (imm ++ rs1 ++ rd.setWidth 8 ++ op).setWidth 32 := by
        rw [encodeI, hrd, BitVec.setWidth_append_append_append_eq_shiftLeft_setWidth_or]
    _ = imm ++ rs1 ++ rd.setWidth 8 ++ op := BitVec.setWidth_eq _

/-- An appended field counts as the low digit of a number. -/
theorem toNat_append_eq_mul_add {m n : Nat} (x : BitVec m) (y : BitVec n) :
    (x ++ y).toNat = x.toNat * 2 ^ n + y.toNat := by
  rw [BitVec.toNat_append, ← Nat.shiftLeft_add_eq_or_of_lt y.isLt, Nat.shiftLeft_eq]

theorem encodeI_toNat (op : Opcode) (rd rs1 : RegIdx) (imm : Imm12) :
    (encodeI op rd rs1 imm).toNat = imm.toNat * 2 ^ 20 + rs1.toNat * 2 ^ 15 + rd.toNat * 2 ^ 7 + op.toNat := by
  simp only [encodeI_eq_append, toNat_append_eq_mul_add, BitVec.toNat_setWidth_of_le (show 5 ≤ 8 by decide)]
  omega

/-- An R-type word is the I-type word whose immediate has `rs2` in its low five bits. -/
theorem encodeR_eq_encodeI (op : Opcode) (rd rs1 rs2 : RegIdx) :
    encodeR op rd rs1 rs2 = encodeI op rd rs1 (rs2.setWidth 12) := by
  rw [encodeR, encodeI, BitVec.setWidth_setWidth (by decide)]

theorem encodeR_toNat (op : Opcode) (rd rs1 rs2 : RegIdx) :
    (encodeR op rd rs1 rs2).toNat = rs2.toNat * 2 ^ 20 + rs1.toNat * 2 ^ 15 + rd.toNat * 2 ^ 7 + op.toNat := by
  rw [encodeR_eq_encodeI, encodeI_toNat, BitVec.toNat_setWidth_of_le (by decide)]

/-- A register number in range is its index. -/
theorem Asm.toNat_ofNat_of_registerOk {n : Nat} (h : Asm.registerOk n = true) : (BitVec.ofNat 5 n).toNat = n :=
  Nat.mod_eq_of_lt (of_decide_eq_true h)

/-- The immediate field holds the written number modulo 4096, in two's complement. -/
theorem toNat_ofInt_imm (i : Int) : ((BitVec.ofInt 12 i).toNat : Int) = i % 4096 := by
  rw [BitVec.toNat_ofInt, Int.toNat_of_nonneg (Int.emod_nonneg _ (by decide))]
  rfl

theorem assemble_addi_toNat {d s : Nat} (hd : Asm.registerOk d = true) (hs : Asm.registerOk s = true) (i : Int) :
    ((assemble (.addi d s i)).toNat : Int) = (i % 4096) * 2 ^ 20 + s * 2 ^ 15 + d * 2 ^ 7 + 0x13 := by
  rw [assemble, encode, encodeI_toNat, Asm.toNat_ofNat_of_registerOk hd, Asm.toNat_ofNat_of_registerOk hs,
    ← toNat_ofInt_imm]
  rfl

theorem assemble_add_toNat {d s t : Nat} (hd : Asm.registerOk d = true) (hs : Asm.registerOk s = true)
    (ht : Asm.registerOk t = true) :
    (assemble (.add d s t)).toNat = t * 2 ^ 20 + s * 2 ^ 15 + d * 2 ^ 7 + 0x33 := by
  rw [assemble, encode, encodeR_toNat, Asm.toNat_ofNat_of_registerOk hd, Asm.toNat_ofNat_of_registerOk hs,
    Asm.toNat_ofNat_of_registerOk ht]
  rfl

/-- A move is the addition of 0 (rule R89). -/
theorem assemble_mv (d s : Nat) : assemble (.mv d s) = assemble (.addi d s 0) := rfl

/-- A load of an immediate is its addition to x0 (rule R89). -/
theorem assemble_li (d : Nat) (i : Int) : assemble (.li d i) = assemble (.addi d 0 i) := rfl

/-- Settles O7: the formulas of the two layouts, and the pseudo-instructions by the formula of ADDI. -/
theorem assemblerLinesEncodeByFormula : Obligations.AssemblerLinesEncodeByFormula := by
  refine ⟨fun d s i h => ?addi, fun d s t h => ?add, fun w h => ?word, by decide, fun d s h => ?mv, fun d i h => ?li⟩
  case addi =>
    simp only [Asm.wellFormed, Bool.and_eq_true] at h
    obtain ⟨⟨hd, hs⟩, -⟩ := h
    exact assemble_addi_toNat hd hs i
  case add =>
    simp only [Asm.wellFormed, Bool.and_eq_true] at h
    obtain ⟨⟨hd, hs⟩, ht⟩ := h
    exact assemble_add_toNat hd hs ht
  case word => exact Nat.mod_eq_of_lt (of_decide_eq_true h)
  case mv =>
    simp only [Asm.wellFormed, Bool.and_eq_true] at h
    obtain ⟨hd, hs⟩ := h
    have hadd := assemble_addi_toNat hd hs 0
    rw [← assemble_mv] at hadd
    omega
  case li =>
    simp only [Asm.wellFormed, Bool.and_eq_true] at h
    obtain ⟨hd, -⟩ := h
    simpa [assemble_li] using assemble_addi_toNat hd (s := 0) rfl i

end Sys2Proof
end

section
/-! Steps by name: what the machine does at the guard, while it waits, for one pending move, and before the first reset
(spec/44_run_loop.md section 3, spec/70_reset_and_hazards.md section 5). -/

namespace Sys2Proof.Machine

/-! ### One move of the host (rules R38 and R258) -/

/-- With no run in progress a step performs the next move, when it may come now. -/
theorem step_of_move {s : State} {m : HostMove} {rest : List HostMove} (hrun : s.runInProgress = false)
    (hq : s.hostQueue = m :: rest) (hok : (s.wasReset || m.beforeResetOk) = true) :
    step s = performMove m { s with hostQueue := rest } := by
  rw [step_host hrun, hostStep, hq]
  exact if_pos hok

/-- An accepted command is performed. -/
theorem State.accepts.step_eq {s : State} {m : HostMove} {rest : List HostMove} (h : s.accepts m rest) :
    step s = performMove m { s with hostQueue := rest } := by
  obtain ⟨hmode, hreset, hq⟩ := h
  exact step_command hmode hreset hq

/-- Settles O45: with no run in progress a step is the host's, and an empty queue is a wait. -/
theorem haltedMachineWaits : Obligations.HaltedMachineWaits := by
  intro s hrun hq
  rw [step_host hrun, hostStep, hq]

/-- Settles O44: the two moves that may come before the first reset are the two excluded. -/
theorem onlyResetBeforeTheFirstReset : Obligations.OnlyResetBeforeTheFirstReset := by
  intro s m rest hreset hq hnoReset hnoWrite
  have hnotOk : m.beforeResetOk = false := by
    cases m with
    | reset r => exact absurd rfl (hnoReset r)
    | writeByte a b => exact absurd rfl (hnoWrite a b)
    | _ => rfl
  rw [step_host (State.runInProgress_of_not_reset hreset), hostStep, hq]
  exact if_neg (by simp [hreset, hnotOk])

/-! ### Steps of a run (rules R111, R182 and R183) -/

/-- Settles O27: the step of the guard, whose halt sets the mode. -/
theorem guardEndsTheRun : Obligations.GuardEndsTheRun := fun _ => step_of_guard

/-- The four bytes read at the program counter decode to what the fetched word decodes to. -/
theorem decode_readBytes_pc (s : State) : decode (s.readBytes s.pc 4) = .ok (decodeWord s.fetchWord, []) := by
  rw [State.readBytes_four, decode, State.fetchWord]

/-- Settles O25: the bytes at `pc` are those of the fetched word, so the iteration executes their instruction. -/
theorem stepRunsTheDecodedInstruction : Obligations.StepRunsTheDecodedInstruction := by
  intro s i hs hdec _
  rw [decode_readBytes_pc] at hdec
  cases hdec
  exact step_of_iterates hs

/-- Settles O33: an iteration adds 4, and the sum wraps to 0. -/
theorem programCounterWraps : Obligations.ProgramCounterWraps := by
  intro s hs hpc
  obtain ⟨-, t, -, ht, htpc, -⟩ := iteration_pc hs
  refine ⟨t, ht, ?_⟩
  rw [htpc, hpc]
  decide

/-- A step of a run leaves the ceiling, memory, and whether the machine is reset (rules R29, R54 and R38). -/
theorem runStep_keeps {s t : State} (h : runStep s = .next t) :
    t.cycleBudget = s.cycleBudget ∧ t.mem = s.mem ∧ t.wasReset = s.wasReset := by
  obtain ⟨-, rfl⟩ | ⟨-, u, -, he, rfl⟩ := runStep_cases h
  · exact ⟨rfl, rfl, rfl⟩
  · obtain ⟨-, hbudget, -, -, hmem, -, -, hreset⟩ := he.keeps
    simp [hbudget, hmem, hreset]

/-- A step of a run counts one tick below the ceiling and none at or above it (rule R30). -/
theorem runStep_tickCount {s t : State} (h : runStep s = .next t) :
    t.tickCount = if s.pc < s.cycleBudget then s.tickCount + 1#64 else s.tickCount := by
  obtain ⟨hg, rfl⟩ | ⟨hg, u, -, he, rfl⟩ := runStep_cases h
  · rw [if_neg (BitVec.not_lt.2 (s.guardStops_iff.1 hg)), State.halt_tickCount]
  · obtain ⟨-, -, htick, -⟩ := he.keeps
    rw [if_pos (s.guardStops_false_iff.1 hg), State.finishIteration_tickCount, htick, State.advancePc_tickCount]

/-! ### The early exit after one instruction (rule R184) -/

/-- Settles O29: after the entry actions one iteration runs, counts 1, and leaves x2 above the limit, since the word
writes no register but its `rd`. -/
theorem smallLimitHaltsAfterOneInstruction : Obligations.SmallLimitHaltsAfterOneInstruction := by
  intro s limit rest hacc hlt hx2 hrd
  have hs : (State.enterRun { s with hostQueue := rest } limit).iterates := ⟨hacc.runInProgress_enterRun, hlt⟩
  obtain ⟨u, t, hu, ht, hregs, -, hit⟩ := step_iteratesTo hs
  have hkept : t.readReg 2#5 = s.readReg 2#5 := (hregs _).trans (executeWord_readReg_of_ne hu (Ne.symm hrd))
  refine ⟨t, (step_run_command hacc).trans ht, ?_, hit.tickCount, hit.pc, hit.cycleBudget⟩
  rw [hit.mode, hkept]
  exact if_pos hx2

/-! ### The start of a run (section 4 of spec/44_run_loop.md) -/

/-- A step of a run keeps the difference that an iteration moves on both sides. -/
theorem runStep_start {s t : State} (h : runStep s = .next t) :
    t.pc - 4#64 * t.tickCount = s.pc - 4#64 * s.tickCount := by
  rw [runStep_pc h, runStep_tickCount h]
  split
  · bv_omega
  · rfl

/-- Settles O32: every step of a run keeps the difference, and the entry of the run makes it the program counter. -/
theorem startOfRunIsRecoverable : Obligations.StartOfRunIsRecoverable := by
  refine ⟨fun s t hrun h => runStep_start ((step_running hrun).symm.trans h), fun s t limit rest hacc h => ?_⟩
  rw [hacc.step_eq, performMove] at h
  rw [runStep_start h, State.enterRun_tickCount, BitVec.mul_zero, BitVec.sub_zero, State.enterRun_pc]

end Sys2Proof.Machine
end

section
/-! Fetch and memory: the word placed for the next fetch, and who changes a byte (spec/40_fetch.md rule R118,
spec/20_memory.md rules R51 and R54). -/

namespace Sys2Proof.Machine

/-! ### Placing a word (rule R118) -/

/-- Placing a word stores its four bytes, lowest first, from the program counter up. -/
theorem State.placeWord_eq (s : State) (nbits w : Nat) : s.placeWord nbits w =
    (((s.writeByte s.pc ((tableWord nbits w).extractLsb' 0 8)).writeByte (s.pc + 1#64)
      ((tableWord nbits w).extractLsb' 8 8)).writeByte (s.pc + 2#64)
        ((tableWord nbits w).extractLsb' 16 8)).writeByte (s.pc + 3#64) ((tableWord nbits w).extractLsb' 24 8) := by
  simp only [State.placeWord, wordBytes, State.writeBytes, BitVec.add_assoc]
  rfl

/-- Settles O10: the four addresses differ, so each byte is read back, and the bytes assemble to the word. -/
theorem placedWordIsFetched : Obligations.PlacedWordIsFetched := by
  intro s nbits w
  rw [State.placeWord_eq]
  refine ⟨?fetched, fun a h0 h1 h2 h3 => by simp [h0, h1, h2, h3]⟩
  case fetched =>
    refine Eq.trans ?_ (assembleWord_wordBytes (tableWord nbits w))
    simp [State.fetchWord]

/-! ### Who changes memory (rule R54) -/

theorem Effect.mem_eq {s t : State} (h : Effect s t) : t.mem = s.mem := by
  obtain ⟨-, -, -, -, hmem, -⟩ := h.keeps
  exact hmem

/-- No step of a run stores anything. -/
theorem runStep_mem {s t : State} (h : runStep s = .next t) : t.mem = s.mem := by
  obtain ⟨-, hmem, -⟩ := runStep_keeps h
  exact hmem

/-- No command stores anything: of the host's moves only its own byte store does. -/
theorem performMove_mem {m : HostMove} {s t : State} (h : performMove m s = .next t) :
    t.mem = s.mem ∨ ∃ a b, m = .writeByte a b ∧ t = s.writeByte a b := by
  obtain ⟨r, -, rfl⟩ | ⟨-, rfl⟩ | ⟨w, -, -, he⟩ | ⟨limit, -, hrun⟩ | ⟨-, rfl⟩ | hwrite := performMove_cases h
  case inr.inr.inl => exact .inl he.mem_eq
  case inr.inr.inr.inl => exact .inl ((runStep_mem hrun).trans (s.enterRun_mem limit))
  case inr.inr.inr.inr.inr => exact .inr hwrite
  all_goals exact .inl rfl

/-- Settles O11: a step of a run and a wait keep memory, and so does every move but a byte store. -/
theorem onlyTheHostChangesMemory : Obligations.OnlyTheHostChangesMemory := by
  intro s t h
  obtain ⟨-, hs⟩ | ⟨-, -, rfl⟩ | ⟨m, rest, hrun, hq, -, hs⟩ := step_cases h
  · exact .inl (State.readByte_congr (runStep_mem hs))
  · exact .inl fun _ => rfl
  · obtain hmem | ⟨a, b, rfl, rfl⟩ := performMove_mem hs
    · exact .inl (State.readByte_congr hmem)
    · exact .inr ⟨a, b, rest, hrun, hq, fun a' => State.readByte_writeByte _ a a' b⟩

/-! ### The command `fetch` (spec/40_fetch.md section 3) -/

/-- The command hands back the word at the program counter. -/
theorem State.accepts.step_fetch {s : State} {rest : List HostMove} (h : s.accepts .fetch rest) :
    step s = .next (State.reply { s with hostQueue := rest } (.word s.fetchWord)) :=
  h.step_eq

/-- Settles O9: after the first command the second is accepted, and finds the same program counter and memory. -/
theorem fetchCommandChangesNothing : Obligations.FetchCommandChangesNothing := by
  intro s rest h
  have ⟨hmode, hreset, _⟩ := h
  have h' : (State.reply { s with hostQueue := .fetch :: rest } (.word s.fetchWord)).accepts .fetch rest :=
    ⟨hmode, hreset, rfl⟩
  rw [run_succ_of_step h.step_fetch, run_succ_of_step h'.step_fetch]
  simp only [Host.Core.run, State.reply, List.append_assoc]
  rfl

end Sys2Proof.Machine
end

section
/-! The frames of the instructions and the wrap of their sums (spec/41_decode_dispatch.md, spec/42_integer_compute.md,
spec/43_null_unimplemented.md). -/

namespace Sys2Proof.Machine

/-! ### ADDI and ADD -/

/-- Settles O17: either instruction is one write through the write port. -/
theorem computingInstructionsFrame : Obligations.ComputingInstructionsFrame := by
  intro i rd hi s t h
  obtain ⟨v, rfl⟩ : ∃ v, t = s.writeReg rd v := by
    obtain ⟨rs1, imm, rfl⟩ | ⟨rs1, rs2, rfl⟩ := hi
    · exact ⟨_, Host.Outcome.next.inj (h.symm.trans (exec_addi ..))⟩
    · exact ⟨_, Host.Outcome.next.inj (h.symm.trans (exec_add ..))⟩
  exact ⟨fun j hj => s.readReg_writeReg_of_ne hj v, by rw [State.readReg_zero, State.readReg_zero],
    s.keepsAllButRegisters_writeReg rd v⟩

/-! ### NULL and UNIMP -/

/-- Only NULL has opcode 0x00. -/
theorem opcode_eq_zero_iff {i : Instr} : i.opcode = 0x00#7 ↔ i = .null := by
  cases i <;> simp [Instr.opcode]

/-- Settles O18: NULL answers the same state, and an UNIMP row emits its opcode. -/
theorem noOpClassesFrame : Obligations.NoOpClassesFrame := by
  intro i h13 h33 s t h
  by_cases hnull : i = .null
  · subst hnull
    cases h
    simp
  · have h0 : i.opcode ≠ 0x00#7 := mt opcode_eq_zero_iff.1 hnull
    rw [exec_of_unimplemented ⟨h0, h13, h33⟩] at h
    cases h
    simp [hnull]

/-! ### Sums (decision D11) -/

/-- A bit vector read as unsigned is the remainder of what it is as signed. -/
theorem toNat_eq_toInt_emod {n : Nat} (x : BitVec n) : (x.toNat : Int) = x.toInt % 2 ^ n := by
  have hpow : ((2 ^ n : Nat) : Int) = 2 ^ n := by push_cast; rfl
  rw [BitVec.toInt_eq_toNat_bmod, ← hpow, Int.bmod_emod]
  exact (Int.emod_eq_of_lt (Int.natCast_nonneg _) (Int.ofNat_lt.2 x.isLt)).symm

/-- The sum with an immediate, read as signed. -/
theorem toInt_add_immValue (a : Word) (imm : Imm12) :
    (a + imm.signExtend 32).toInt = (a.toInt + imm.toInt).bmod (2 ^ 32) := by
  rw [BitVec.toInt_add, BitVec.toInt_signExtend_of_le (by decide)]

/-- The sum with an immediate, read as unsigned: the immediate counts as signed. -/
theorem toNat_add_immValue (a : Word) (imm : Imm12) :
    ((a + imm.signExtend 32).toNat : Int) = (a.toNat + imm.toInt) % 2 ^ 32 := by
  calc ((a + imm.signExtend 32).toNat : Int)
    _ = (a.toInt + imm.toInt).bmod (2 ^ 32) % 2 ^ 32 := by rw [toNat_eq_toInt_emod, toInt_add_immValue]
    _ = (a.toInt + imm.toInt) % 2 ^ 32 := Int.bmod_emod
    _ = (a.toNat + imm.toInt) % 2 ^ 32 := by rw [← Int.emod_add_emod, ← toNat_eq_toInt_emod]

/-- Settles O24: the sum is that of bit vectors, whose two readings wrap. -/
theorem sumsWrapModulo32Bits : Obligations.SumsWrapModulo32Bits := by
  intro s rd rs1 rs2 imm hrd
  obtain ⟨t, ht, hsum⟩ := exec_add_readReg s hrd rs1 rs2
  obtain ⟨u, hu, hisum⟩ := exec_addi_readReg s hrd rs1 imm
  refine ⟨⟨t, ht, ?_, ?_⟩, u, hu, ?_, ?_⟩
  · rw [hsum, BitVec.toNat_add]
  · rw [hsum, BitVec.toInt_add]
  · rw [hisum, toNat_add_immValue]
  · rw [hisum, toInt_add_immValue]

end Sys2Proof.Machine
end

section
/-! The host's commands `reset` and `dump` (spec/70_reset_and_hazards.md sections 1 and 6). -/

namespace Sys2Proof.Machine

/-! ### Reset (rule R37) -/

/-- The registers after reset: x1 is 32, x2 is the argument, every other one 0. -/
theorem State.applyReset_readReg (s : State) (r : Word) (j : RegIdx) :
    (s.applyReset r).readReg j = if j = 1#5 then 32#32 else if j = 2#5 then r else 0#32 := by
  have hone : (1 = j.toNat) ↔ j = 1#5 := by bv_omega
  have htwo : (2 = j.toNat) ↔ j = 2#5 := by bv_omega
  by_cases h1 : j = 1#5
  · subst h1; rfl
  · by_cases h2 : j = 2#5
    · subst h2; rfl
    · simp [State.readReg, RegFile.reset, hone, htwo, h1, h2]

/-- Settles O41: a reset may come whether or not one has happened, and gives the table. -/
theorem resetCommandValues : Obligations.ResetCommandValues := by
  intro s ramSize rest hrun hq
  refine ⟨_, step_of_move hrun hq (Bool.or_true _), rfl, ?_, ?_, fun j h1 h2 => ?_, rfl, rfl, rfl, fun _ => rfl, rfl,
    rfl, rfl, rfl⟩
  · rw [State.applyReset_readReg, if_pos rfl]
  · rw [State.applyReset_readReg, if_neg (by decide), if_pos rfl]
  · rw [State.applyReset_readReg, if_neg h1, if_neg h2]

/-! ### Dump (rule R262) -/

/-- The first registers of the lines below a bound of at most 32. -/
theorem dumpIndices_below (m : Nat) (hm : m ≤ 32) :
    ([0, 4, 8, 12, 16, 20, 24, 28] : List Nat).filter (fun index => decide (index < m)) =
      (List.range ((m + 3) / 4)).map (4 * ·) := by
  revert m
  decide

/-- The dump has a line for each group of four registers that begins below the bound. -/
theorem State.dumpLines_eq (s : State) :
    s.dumpLines = (List.range ((min s.tickCount.toNat 32 + 3) / 4)).map (fun k => s.dumpLine (4 * k)) := by
  rw [State.dumpLines, dumpIndices_below _ (Nat.min_le_right ..), List.map_map]
  rfl

/-- Settles O43: the command hands back the lines, and reading the registers does not see the queue. -/
theorem dumpShowsRegisters : Obligations.DumpShowsRegisters := by
  intro s rest h
  refine ⟨s.dumpLines, h.step_eq, by simp [State.dumpLines_eq], fun k hk => ?_⟩
  have hline : s.dumpLines[k]? = some (s.dumpLine (4 * k)) := by
    rw [State.dumpLines_eq, List.length_map, List.length_range] at hk
    simp [State.dumpLines_eq, hk]
  exact hline

end Sys2Proof.Machine
end

section
/-! What every step keeps: the invariant, the reset, and who changes the control state (spec/10_state.md sections 2 to
4 and 6). -/

namespace Sys2Proof.Machine

/-! ### The invariant -/

/-- The invariant sees four elements of the state only. -/
theorem State.Inv.of_eq {s t : State} (h : s.Inv) (hpc : t.pc = s.pc) (hzero : t.regs[0] = s.regs[0])
    (hmem : t.mem = s.mem) (hreset : t.wasReset = s.wasReset) : t.Inv where
  pcAligned := hpc ▸ h.pcAligned
  zeroIsZero := hzero.trans h.zeroIsZero
  memCanonical := hmem ▸ h.memCanonical
  resetDone := hreset.trans h.resetDone

/-- A reset makes the invariant true on canonical memory (rules R37 and R243). -/
theorem State.applyReset_inv {s : State} (h : s.mem.wf) (ramSize : Word) : (s.applyReset ramSize).Inv where
  pcAligned := rfl
  zeroIsZero := RegFile.reset_storage_zero ramSize
  memCanonical := h
  resetDone := rfl

/-- Settles O35: `State.reset` is itself the outcome of a reset operation, on empty memory. -/
theorem invariantAtReset : Obligations.InvariantAtReset :=
  ⟨State.applyReset_inv (s := State.reset) (by decide) Config.bootRamSize, fun _ r h => State.applyReset_inv h r⟩

theorem State.Inv.advancePc {s : State} (h : s.Inv) : s.advancePc.Inv where
  pcAligned := aligned_add_four h.pcAligned
  zeroIsZero := h.zeroIsZero
  memCanonical := h.memCanonical
  resetDone := h.resetDone

theorem State.Inv.writeByte {s : State} (h : s.Inv) (a : Addr) (b : Byte) : (s.writeByte a b).Inv where
  pcAligned := h.pcAligned
  zeroIsZero := h.zeroIsZero
  memCanonical := State.writeByte_wf h.memCanonical a b
  resetDone := h.resetDone

theorem Effect.inv {s t : State} (he : Effect s t) (h : s.Inv) : t.Inv := by
  obtain ⟨hpc, -, -, -, hmem, -, -, hreset⟩ := he.keeps
  exact h.of_eq hpc he.keeps_storage_zero hmem hreset

theorem runStep_inv {s t : State} (h : runStep s = .next t) (hs : s.Inv) : t.Inv := by
  obtain ⟨-, rfl⟩ | ⟨-, u, -, he, rfl⟩ := runStep_cases h
  · exact hs.of_eq rfl rfl rfl rfl
  · exact (he.inv hs.advancePc).of_eq u.finishIteration_pc (by rw [State.finishIteration_regs]) u.finishIteration_mem
      u.finishIteration_wasReset

theorem performMove_inv {m : HostMove} {s t : State} (h : performMove m s = .next t) (hs : s.Inv) : t.Inv := by
  obtain ⟨r, -, rfl⟩ | ⟨-, rfl⟩ | ⟨w, -, -, he⟩ | ⟨limit, -, hrun⟩ | ⟨-, rfl⟩ | ⟨a, b, -, rfl⟩ := performMove_cases h
  · exact State.applyReset_inv hs.memCanonical r
  · exact hs.of_eq rfl rfl rfl rfl
  · exact he.inv hs
  · exact runStep_inv hrun (hs.of_eq rfl rfl rfl rfl)
  · exact hs.of_eq rfl rfl rfl rfl
  · exact hs.writeByte a b

/-- Settles O34, over everything a step can do. -/
theorem invariantKeptByEveryStep : Obligations.InvariantKeptByEveryStep := by
  intro s t hs h
  obtain ⟨-, hrun⟩ | ⟨-, -, rfl⟩ | ⟨m, rest, -, -, -, hmove⟩ := step_cases h
  · exact runStep_inv hrun hs
  · exact hs
  · exact performMove_inv hmove (hs.of_eq rfl rfl rfl rfl)

/-! ### After a reset (spec/60_exceptions.md rule R210) -/

/-- A reset is not undone: a move leaves the machine as reset as it was, or resets it. -/
theorem performMove_wasReset {m : HostMove} {s t : State} (h : performMove m s = .next t) :
    t.wasReset = s.wasReset ∨ t.wasReset = true := by
  obtain ⟨r, -, rfl⟩ | ⟨-, rfl⟩ | ⟨w, -, -, he⟩ | ⟨limit, -, hrun⟩ | ⟨-, rfl⟩ | ⟨a, b, -, rfl⟩ := performMove_cases h
  case inl => exact .inr rfl
  case inr.inr.inl =>
    obtain ⟨-, -, -, -, -, -, -, hreset⟩ := he.keeps
    exact .inl hreset
  case inr.inr.inr.inl =>
    obtain ⟨-, -, hreset⟩ := runStep_keeps hrun
    exact .inl hreset
  all_goals exact .inl rfl

theorem step_wasReset {s t : State} (hs : s.wasReset = true) (h : step s = .next t) : t.wasReset = true := by
  obtain ⟨-, hrun⟩ | ⟨-, -, rfl⟩ | ⟨m, rest, -, -, -, hmove⟩ := step_cases h
  · obtain ⟨-, -, hreset⟩ := runStep_keeps hrun
    exact hreset.trans hs
  · exact hs
  · exact (performMove_wasReset hmove).elim (·.trans hs) id

/-- After a reset no step faults or is refused: no run, wait or move does. -/
theorem step_next {s : State} (hs : s.wasReset = true) : ∃ t, step s = .next t := by
  cases hrun : s.runInProgress with
  | true => exact (runStep_next s).imp fun _ => (step_running hrun).trans
  | false =>
    cases hq : s.hostQueue with
    | nil => exact ⟨s, haltedMachineWaits s hrun hq⟩
    | cons m rest => exact (performMove_next m _).imp fun _ => (step_of_move hrun hq (by rw [hs, Bool.true_or])).trans

/-- Settles O36: a step answers, and does not undo the reset. -/
theorem stepAlwaysAnswersAfterReset : Obligations.StepAlwaysAnswersAfterReset := fun _ hs =>
  (step_next hs).imp fun _ h => ⟨h, step_wasReset hs h⟩

/-! ### Before the first reset (rule R38, decision D17) -/

/-- Settles O47: no run is in progress, and the moves that may come are a reset and a byte store. -/
theorem nothingRunsBeforeTheFirstReset : Obligations.NothingRunsBeforeTheFirstReset := by
  intro s t hreset h
  obtain ⟨hrun, -⟩ | ⟨-, -, rfl⟩ | ⟨m, rest, -, hq, hok, hmove⟩ := step_cases h
  · rw [State.runInProgress_of_not_reset hreset] at hrun
    cases hrun
  · exact .inr rfl
  · rw [hreset, Bool.false_or] at hok
    cases m with
    | reset ramSize =>
      cases hmove
      refine .inl ⟨ramSize, rest, hq, rfl, rfl, rfl, ?_, rfl⟩
      rw [State.applyReset_readReg, if_neg (by decide), if_pos rfl]
    | writeByte a b =>
      cases hmove
      exact .inr rfl
    | _ => cases hok

/-! ### The ceiling and the tick counter (rules R29 and R30) -/

/-- What a move of the host does to the control state: nothing, the entry of a run and its first step, or a reset. -/
theorem performMove_control {m : HostMove} {s t : State} (h : performMove m s = .next t) :
    (t.cycleBudget = s.cycleBudget ∧ t.tickCount = s.tickCount) ∨
      (∃ limit, m = .run limit ∧ t.cycleBudget = limit ∧ t.tickCount = if s.pc < limit then 1#64 else 0#64) ∨
      (∃ ramSize, m = .reset ramSize ∧ t = s.applyReset ramSize) := by
  obtain hreset | ⟨-, rfl⟩ | ⟨w, -, -, he⟩ | ⟨limit, rfl, hrun⟩ | ⟨-, rfl⟩ | ⟨a, b, -, rfl⟩ := performMove_cases h
  case inl => exact .inr (.inr hreset)
  case inr.inr.inl =>
    obtain ⟨-, hbudget, htick, -⟩ := he.keeps
    exact .inl ⟨hbudget, htick⟩
  case inr.inr.inr.inl =>
    obtain ⟨hbudget, -⟩ := runStep_keeps hrun
    exact .inr (.inl ⟨limit, rfl, hbudget, runStep_tickCount hrun⟩)
  all_goals exact .inl ⟨rfl, rfl⟩

/-- Settles O38: a step of a run counts below the ceiling only, and a move is one of the three kinds. -/
theorem controlStateIsTheHosts : Obligations.ControlStateIsTheHosts := by
  intro s t h
  obtain ⟨hrun, hs⟩ | ⟨-, -, rfl⟩ | ⟨m, rest, hrun, hq, hok, hs⟩ := step_cases h
  · obtain ⟨hbudget, -⟩ := runStep_keeps hs
    refine .inl ⟨hbudget, ?_⟩
    rw [runStep_tickCount hs]
    split
    · next hlt => exact .inr ⟨⟨hrun, hlt⟩, rfl⟩
    · exact .inl rfl
  · exact .inl ⟨rfl, .inl rfl⟩
  · obtain ⟨hbudget, htick⟩ | ⟨limit, rfl, hbudget, htick⟩ | ⟨ramSize, rfl, rfl⟩ := performMove_control hs
    · exact .inl ⟨hbudget, .inl htick⟩
    · exact .inr (.inl ⟨limit, rest, State.accepts_of_performed hrun hq hok rfl, hbudget, htick⟩)
    · exact .inr (.inr ⟨⟨ramSize, rest, hrun, hq⟩, rfl, rfl, rfl⟩)

end Sys2Proof.Machine
end

section
/-! The diagnostic stream and the host's pending moves, which no outcome depends on (spec/43_null_unimplemented.md
section 2, spec/70_reset_and_hazards.md section 5). -/

namespace Sys2Proof.Machine

/-! ### Independence of the two streams -/

/-- The state with another diagnostic stream and other pending moves. -/
def State.withStreams (s : State) (d : List Opcode) (moves : List HostMove) : State :=
  { s with diag := d, hostQueue := moves }

/-- What one step may emit: at most one diagnostic, of an UNIMP opcode (rules R161 and R162). -/
def Emittable (emitted : List Opcode) : Prop :=
  emitted.length ≤ 1 ∧ ∀ op ∈ emitted, Opcode.unimplemented op

/-- The operation takes `s` to `t` whatever the two streams hold: it appends `emitted` to the diagnostics and leaves the
pending moves. -/
def TakesTo (f : State → Host.Outcome State Fault Refusal) (s t : State) (emitted : List Opcode) : Prop :=
  ∀ d moves, f (s.withStreams d moves) = .next (t.withStreams (d ++ emitted) moves)

theorem emittable_nil : Emittable [] := ⟨Nat.zero_le 1, fun _ h => absurd h List.not_mem_nil⟩

theorem emittable_singleton {op : Opcode} (h : Opcode.unimplemented op) : Emittable [op] :=
  ⟨Nat.le_refl 1, fun _ hop => List.mem_singleton.1 hop ▸ h⟩

/-- On the state's own streams the operation appends the same diagnostics and leaves the moves. -/
theorem TakesTo.streams_eq {f : State → Host.Outcome State Fault Refusal} {s t : State} {emitted : List Opcode}
    (h : TakesTo f s t emitted) (hst : f s = .next t) : t.diag = s.diag ++ emitted ∧ t.hostQueue = s.hostQueue := by
  have ht : t = t.withStreams (s.diag ++ emitted) s.hostQueue :=
    Host.Outcome.next.inj (hst.symm.trans (h s.diag s.hostQueue))
  exact ⟨congrArg State.diag ht, (congrArg State.hostQueue ht :)⟩

theorem TakesTo.with_diag {f : State → Host.Outcome State Fault Refusal} {s t : State} {emitted : List Opcode}
    (h : TakesTo f s t emitted) (hst : f s = .next t) (d : List Opcode) :
    f { s with diag := d } = .next { t with diag := d ++ emitted } := by
  obtain ⟨-, hqueue⟩ := h.streams_eq hst
  exact (h d s.hostQueue).trans (by rw [State.withStreams, ← hqueue])

theorem TakesTo.with_moves {f : State → Host.Outcome State Fault Refusal} {s t : State} {emitted : List Opcode}
    (h : TakesTo f s t emitted) (hst : f s = .next t) (moves : List HostMove) :
    f { s with hostQueue := moves } = .next { t with hostQueue := moves } := by
  obtain ⟨hdiag, -⟩ := h.streams_eq hst
  exact (h s.diag moves).trans (by rw [State.withStreams, ← hdiag])

/-- An operation that commutes with the replacement of the streams emits nothing. -/
theorem TakesTo.of_commutes {f : State → Host.Outcome State Fault Refusal} {g : State → State} {s : State}
    (hf : ∀ u, f u = .next (g u)) (hg : ∀ d moves, g (s.withStreams d moves) = (g s).withStreams d moves) :
    TakesTo f s (g s) [] := fun d moves => by
  rw [hf, hg, List.append_nil]

/-- The write port commutes with the replacement of the streams. -/
theorem State.writeReg_withStreams (s : State) (d : List Opcode) (moves : List HostMove) (i : RegIdx) (v : Word) :
    (s.withStreams d moves).writeReg i v = (s.writeReg i v).withStreams d moves := by
  unfold State.writeReg
  split <;> rfl

/-- The early exit does not see the streams. -/
theorem State.finishIteration_withStreams (s : State) (d : List Opcode) (moves : List HostMove) :
    (s.withStreams d moves).finishIteration = s.finishIteration.withStreams d moves := by
  have hexit : (s.withStreams d moves).countTick.earlyExit = s.countTick.earlyExit := rfl
  unfold State.finishIteration
  rw [hexit]
  split <;> rfl

/-! ### Each operation -/

/-- An instruction writes a register, which no stream sees, or emits its UNIMP opcode. -/
theorem exec_takesTo {i : Instr} {s t : State} (h : exec i s = .next t) :
    ∃ emitted, Emittable emitted ∧ TakesTo (exec i) s t emitted := by
  by_cases hun : Opcode.unimplemented i.opcode
  · rw [exec_of_unimplemented hun] at h
    cases h
    exact ⟨[i.opcode], emittable_singleton hun, fun d moves => exec_of_unimplemented hun _⟩
  · refine ⟨[], emittable_nil, ?_⟩
    cases i with
    | null => cases h; exact .of_commutes (g := id) (fun _ => rfl) fun _ _ => rfl
    | addi rd rs1 imm =>
      cases h
      exact .of_commutes (exec_addi rd rs1 imm) fun d moves => s.writeReg_withStreams d moves ..
    | add rd rs1 rs2 =>
      cases h
      exact .of_commutes (exec_add rd rs1 rs2) fun d moves => s.writeReg_withStreams d moves ..
    | _ => exact absurd (by rw [Opcode.unimplemented]; decide) hun

/-- An iteration emits what its instruction emits. -/
theorem runIteration_takesTo {s t : State} (h : runIteration s = .next t) :
    ∃ emitted, Emittable emitted ∧ TakesTo runIteration s t emitted := by
  obtain ⟨u, hu, -, hnext⟩ := runIteration_next s
  obtain ⟨emitted, hem, htake⟩ := exec_takesTo hu
  rw [hnext] at h
  cases h
  refine ⟨emitted, hem, fun d moves => ?_⟩
  have hu' : executeWord (s.withStreams d moves).fetchWord (s.withStreams d moves).advancePc =
      .next (u.withStreams (d ++ emitted) moves) := htake d moves
  rw [runIteration, hu', ← State.finishIteration_withStreams]

/-- The guard does not see the streams either. -/
theorem runStep_takesTo {s t : State} (h : runStep s = .next t) :
    ∃ emitted, Emittable emitted ∧ TakesTo runStep s t emitted := by
  have hguard (d moves) : (s.withStreams d moves).guardStops = s.guardStops := rfl
  unfold runStep at h
  split at h
  · next hg =>
    cases h
    exact ⟨[], emittable_nil, fun d moves => by rw [runStep, hguard, if_pos hg, List.append_nil]; rfl⟩
  · next hg =>
    obtain ⟨emitted, hem, htake⟩ := runIteration_takesTo h
    exact ⟨emitted, hem, fun d moves => by rw [runStep, hguard, if_neg hg, htake]⟩

/-- Of the host's moves an `execute` and a `run` can emit; what `fetch` and `dump` hand back does not see the streams. -/
theorem performMove_takesTo {m : HostMove} {s t : State} (h : performMove m s = .next t) :
    ∃ emitted, Emittable emitted ∧ TakesTo (performMove m) s t emitted := by
  cases m with
  | execute w => exact exec_takesTo h
  | run limit => exact runStep_takesTo h
  | _ =>
    cases h
    exact ⟨[], emittable_nil, .of_commutes (fun _ => rfl) fun _ _ => rfl⟩

/-! ### During a run (decision D14) -/

/-- A step of a run hands nothing back (rule R259). -/
theorem runStep_replies {s t : State} (h : runStep s = .next t) : t.replies = s.replies := by
  obtain ⟨-, rfl⟩ | ⟨-, u, -, he, rfl⟩ := runStep_cases h
  · rfl
  · obtain ⟨-, -, -, -, -, hreplies, -⟩ := he.keeps
    rw [State.finishIteration_replies, hreplies, State.advancePc_replies]

/-- Settles O39: a step of a run takes the state to the next one whatever moves are pending. -/
theorem hostHasNoMoveDuringARun : Obligations.HostHasNoMoveDuringARun := by
  intro s t hrun h
  rw [step_running hrun] at h
  obtain ⟨emitted, -, htake⟩ := runStep_takesTo h
  obtain ⟨-, hqueue⟩ := htake.streams_eq h
  exact ⟨hqueue, runStep_replies h, fun moves =>
    (step_running (s := { s with hostQueue := moves }) hrun).trans (htake.with_moves h moves)⟩

/-! ### Diagnostics (rules R162 and R215) -/

/-- Settles O40: a step of a run and a move take the state to the next one whatever the stream holds. -/
theorem diagnosticsAreAppendOnly : Obligations.DiagnosticsAreAppendOnly := by
  intro s t h
  obtain ⟨hrun, hs⟩ | ⟨hrun, hq, rfl⟩ | ⟨m, rest, hrun, hq, hok, hs⟩ := step_cases h
  · obtain ⟨emitted, ⟨hlen, hun⟩, htake⟩ := runStep_takesTo hs
    exact ⟨emitted, hlen, hun, fun d =>
      (step_running (s := { s with diag := d }) hrun).trans (htake.with_diag hs d)⟩
  · obtain ⟨hlen, hun⟩ := emittable_nil
    refine ⟨[], hlen, hun, fun d => ?_⟩
    rw [List.append_nil]
    exact haltedMachineWaits { t with diag := d } hrun hq
  · obtain ⟨emitted, ⟨hlen, hun⟩, htake⟩ := performMove_takesTo hs
    exact ⟨emitted, hlen, hun, fun d =>
      (step_of_move (s := { s with diag := d }) hrun hq hok).trans (htake.with_diag hs d)⟩

/-! ### The command `execute` (rule R135) -/

/-- Settles O42: what the word does does not depend on the pending moves, and leaves the control state. -/
theorem executeCommandOnlyExecutes : Obligations.ExecuteCommandOnlyExecutes := by
  intro s w rest h
  obtain ⟨u, hu, he⟩ := executeWord_effect w s
  obtain ⟨emitted, -, htake⟩ := exec_takesTo hu
  obtain ⟨hpc, hbudget, htick, hmode, -⟩ := he.keeps
  have ⟨hhalted, _⟩ := h
  exact ⟨u, _, hu, h.step_eq.trans (htake.with_moves hu rest), rfl, hpc, htick, hbudget, hmode.trans hhalted⟩

end Sys2Proof.Machine
end
